-- ==== Sys2Proof/Word.lean ====
section
/-! DEFINITION. The words of the machine: a stream byte, a 16-bit length or mask, a 32-bit host register
or command word, and the 48-bit header word of the opcode table.

Every quantity is unsigned (R10); `BitVec` addition is the wrap-around addition of R12 and R116. -/

namespace Sys2Proof

/-- A byte of a stream: class, id, payload byte, checksum byte (`BYTE_W` = 8, R7, R10). -/
abbrev Byte := BitVec 8

/-- A 16-bit quantity: the length field, the payload index, the retention mask (`LEN_W` = 16, R7). -/
abbrev Half := BitVec 16

/-- A 32-bit quantity: a command word (`CW_W`), a host register, a tick count (`DL_W`), R7. -/
abbrev Word := BitVec 32

/-- The header word `H` by which the opcode table writes a frame's first six bytes, the byte at offset 0
in bits 47:40 (R81). -/
abbrev Header := BitVec 48

end Sys2Proof
end

