-- ==== Sys2Proof/Config.lean ====
section
/-! DEFINITION. What is fixed for the machine (the parameters of R7 and the named constants of R100), and the
values the spec leaves open, which are constants without a body: no proof can see what they are. -/

namespace Sys2Proof

namespace Config

/-- First synchronisation byte (R7, R82). -/
def sync1 : Byte := 0xB5#8
/-- Second synchronisation byte (R7, R82). -/
def sync2 : Byte := 0x62#8
/-- `MAX_PAYLOAD`, the largest payload length in bytes (R7, R130). -/
def maxPayload : Nat := 65535
/-- `NAV5_SET_LEN`, the CFG-NAV5 set payload length (R7, R87). -/
def nav5SetLen : Nat := 36
/-- `RST_LEN`, the CFG-RST payload length (R7, R88). -/
def rstLen : Nat := 4
/-- `ACK_TIMEOUT_S`, the default deadline of ACK/NAK correlation in seconds (R7). -/
def ackTimeoutS : Nat := 2
/-- `SYNC_OVERLAP`: a 0xB5 seen while waiting for 0x62 keeps the detector armed; this hardware's value is
true (R7, R152, decision D5). -/
def syncOverlap : Bool := true
/-- `VERIFY_CK` at reset: off (R7). -/
def verifyCkReset : Bool := false
/-- `TMO_POLL_EN` at reset: the poll wait is unbounded (R7). -/
def tmoPollEnReset : Bool := false

/-- `CLS_CFG`, class of CFG-NAV5 and CFG-RST (R100). -/
def clsCfg : Byte := 0x06#8
/-- `CLS_ACK`, class of ACK-ACK and ACK-NAK (R100). -/
def clsAck : Byte := 0x05#8
/-- `ID_NAV5` (R100). -/
def idNav5 : Byte := 0x24#8
/-- `ID_RST` (R100). -/
def idRst : Byte := 0x04#8
/-- `ID_ACK` (R100). -/
def idAck : Byte := 0x01#8
/-- `ID_NAK` (R100). -/
def idNak : Byte := 0x00#8
/-- `NAV5_MASK_DYN`, the field-selection mask "dynamic model only" (R87, R100). -/
def nav5MaskDyn : Half := 0x0001#16
/-- `FIXMODE_AUTO`, auto 2D/3D (R87, R100). -/
def fixModeAuto : Byte := 0x02#8
/-- `BBR_HOT`, a `retain_mask` operand: hot start (R88, R100). -/
def bbrHot : Half := 0x0000#16
/-- `BBR_WARM`, a `retain_mask` operand: warm start (R88, R100). -/
def bbrWarm : Half := 0x0001#16
/-- `BBR_COLD`, a `retain_mask` operand: cold start (R88, R100). -/
def bbrCold : Half := 0xFFFF#16

/-- The OPEN parameter `TICK_HZ`, less one. Its type is the range R7, R41 and U19 allow: `TICK_HZ` is positive
and `2 · TICK_HZ < 2^32`; a value outside it is refused by there being none. No body: log entry 3. -/
opaque tickHzLessOne : Fin 2147483647

/-- `TICK_HZ`, `Tick` events per second of the external timebase: OPEN (R7, R41, decision D12). -/
def tickHz : Nat := tickHzLessOne.val + 1

/-- The `n`-th free value: what a register holds where the spec says `unspecified` (R12, R51, R215, R260).
No body: log entry 2. -/
opaque freeValue : Nat → Word

/-- What a read of DLCNT gives outside an exchange with a deadline: "any value" (R47, U5). No body: log entry 6. -/
opaque freeDlcnt : Nat → Word → Word

end Config

end Sys2Proof
end

