-- ==== Sys2Proof/Syntax.lean ====
section
/-! DEFINITION. The instructions: one constructor for each of the 18 rows of the opcode table (R92, R97, R104),
and the forms in which an instruction is presented to the decoder. -/

namespace Sys2Proof

/-- One constructor per row of the opcode table, in the table's order.

The `tx` rows are frames TXASM sends (R92); their operands are those of the payload builders (R133 to R135, R218).
The `rx` rows are completed received frames (R92, R184 to R187); their operands are what the header leaves free.
The next six are the host's command words (R97, R98); `raw` carries the payload operand `P` of R99.
The last four are the two sync bytes as the parser tests them and the two micro-operations of CKGEN. -/
inductive Instr where
  /-- UBX.TX.CFG-NAV5.POLL (R86, R214). -/
  | txNav5Poll
  /-- UBX.TX.CFG-NAV5.SET: operand of `nav5_set_payload` (R87, R134). -/
  | txNav5Set (model : Byte)
  /-- UBX.TX.CFG-RST: operands of `rst_payload` (R88, R135). -/
  | txCfgRst (resetType : Byte) (retainMask : Half)
  /-- UBX.TX.RAW: any class, id and payload (R218). -/
  | txRaw (cls id : Byte) (payload : List Byte)
  /-- UBX.RX.ACK-ACK, header (0x05, 0x01), length `len` (R184). -/
  | rxAckAck (len : Half)
  /-- UBX.RX.ACK-NAK, header (0x05, 0x00), length `len` (R185). -/
  | rxAckNak (len : Half)
  /-- UBX.RX.CFG-NAV5.RESP, header (0x06, 0x24), length `len` (R186). -/
  | rxNav5Resp (len : Half)
  /-- UBX.RX.OTHER, any other header (R187). -/
  | rxOther (cls id : Byte) (len : Half)
  /-- POLL (R214). -/
  | poll
  /-- SET (R215). -/
  | set (model : Byte)
  /-- RSTF (R216). -/
  | rstf (resetType : Byte) (retainMask : Half)
  /-- RSTC (R217). -/
  | rstc (resetType : Byte) (retainMask : Half)
  /-- RAW with its payload operand `P`, of any natural-number length (R99, R218). -/
  | raw (cls id : Byte) (payload : List Byte)
  /-- CW.ILLEGAL: every other command word (R98, R219). -/
  | cwIllegal (cw : Word)
  /-- RX.SYNC1, the byte 0xB5 (R151, R152). -/
  | rxSync1
  /-- RX.SYNC2, the byte 0x62 (R153). -/
  | rxSync2
  /-- CK.CLR (R111). -/
  | ckClr
  /-- CK.ABS of the operand byte `b` (R112). -/
  | ckAbs (b : Byte)
  deriving DecidableEq, Repr

/-- The form in which an instruction stands before the decoder (R80, R81, R96, R104). A header word does not say
which way its frame goes, so the direction is part of the form. -/
inductive Presented where
  /-- A command word with the payload sequence `P` presented beside it (R96, R99). -/
  | command (cw : Word) (payload : List Byte)
  /-- A frame TXASM sends: header word, then the operand bytes its payload builder takes (R81, R133 to R135). -/
  | transmit (header : Header) (operands : List Byte)
  /-- A completed received frame: its header word (R81, R92). -/
  | receive (header : Header)
  /-- One byte of the receive stream, as the sync detector tests it (R104). -/
  | streamByte (b : Byte)
  /-- A micro-operation, which has no encoding (R104, R110): CK.CLR has no operand, CK.ABS has one. -/
  | micro (operand : Option Byte)
  deriving DecidableEq, Repr

/-- Why the decoder reads no instruction. -/
inductive DecodeError where
  /-- Fewer than the six bytes of a header. -/
  | truncated
  /-- The header does not begin with the two sync bytes (R82). -/
  | badSync
  /-- The operand bytes are not as many as the frame's header needs. -/
  | operandCount
  /-- The stream byte is neither 0xB5 nor 0x62, so no RXBYTE row matches (R95, R104). -/
  | notASyncByte
  deriving DecidableEq, Repr

end Sys2Proof
end

