-- ==== Sys2Proof/Machine/State.lean ====
section
/-! DEFINITION. The state of UBXFC as plain data (R20), the environment's events (R8), the reasons a step stops,
and the state after reset (R51, R260). -/

namespace Sys2Proof.Machine

/-- The exchange state, the seven values of R21; value 7 is never taken and has no constructor (U2). -/
inductive XState where
  | idle
  | sent
  | acked
  | naked
  | responded
  | timedOut
  | failed
  deriving DecidableEq, Repr

/-- The receive parser position, the nine values of R28; values 9 to 15 are never taken (U2). -/
inductive PState where
  | sync1
  | sync2
  | cls
  | ident
  | len0
  | len1
  | payload
  | ckA
  | ckB
  deriving DecidableEq, Repr

/-- The last error (R27). -/
inductive Err where
  /-- `E_NONE` -/
  | none
  /-- `E_LEN`, constraint violation: payload longer than 65535 (R230). -/
  | eLen
  /-- `E_XPORT`, transport failure (R232, R233). -/
  | eXport
  /-- `E_OP`, illegal command word (R231). -/
  | eOp
  deriving DecidableEq, Repr

/-- The environment's draw for one write to the stream (R8, R63): whether it succeeds, and how many bytes go out
before it fails. -/
structure WriteDraw where
  txok : Bool
  k : Nat
  deriving DecidableEq, Repr

/-- The input events (R8). -/
inductive Event where
  /-- `Reset` (R260). -/
  | reset
  /-- `Cmd(cw, P, txok, k)` (R210). -/
  | cmd (cw : Word) (payload : List Byte) (txok : Bool) (k : Nat)
  /-- `CfgWr(n, v)` (R221). -/
  | cfgWr (n : Nat) (v : Word)
  /-- `RxByte(b)` (R150). -/
  | rxByte (b : Byte)
  /-- `RxFail` (R233). -/
  | rxFail
  /-- `Tick` (R190). -/
  | tick
  deriving DecidableEq, Repr

/-- The state: the registers of R20, the output stream, and the model's own fields (the last three). -/
structure State where
  /-- `xstate`, exchange state (R21). -/
  xstate : XState
  /-- `pstate`, receive parser position (R28). -/
  pstate : PState
  /-- `rx_idx`, index of the next payload byte expected (R29). -/
  rxIdx : Half
  /-- `rx_cls` (R23). -/
  rxCls : Byte
  /-- `rx_id` (R23). -/
  rxId : Byte
  /-- `rx_len` (R23). -/
  rxLen : Half
  /-- `rx_p0`, payload byte 0 (R23). -/
  rxP0 : Byte
  /-- `rx_p1`, payload byte 1 (R23). -/
  rxP1 : Byte
  /-- `rx_p2`, payload byte 2 (R23). -/
  rxP2 : Byte
  /-- `rx_ck_a`, first accumulator of the receive CKGEN (R24, R110). -/
  rxCkA : Byte
  /-- `rx_ck_b`, second accumulator of the receive CKGEN (R24, R110). -/
  rxCkB : Byte
  /-- `rx_cka_recv`, first received checksum byte (R23). -/
  rxCkaRecv : Byte
  /-- `req_cls`, class of the pending request (R22). -/
  reqCls : Byte
  /-- `req_id`, id of the pending request (R22). -/
  reqId : Byte
  /-- `want_ack`: the pending request accepts ACK and NAK (R22, R183). -/
  wantAck : Bool
  /-- `want_resp`: the pending request accepts a data response (R22, R183). -/
  wantResp : Bool
  /-- `exp_cls`, class of the expected data response (R22). -/
  expCls : Byte
  /-- `exp_id`, id of the expected data response (R22). -/
  expId : Byte
  /-- `dl_en`: the pending request has a deadline (R31, R244). -/
  dlEn : Bool
  /-- `dl_cnt`, ticks left before the deadline (R31, R244). -/
  dlCnt : Word
  /-- `model` and `model_valid` in one field: `none` is `model_valid = 0`, as U3 tells a model to hold them (R26). -/
  model : Option Byte
  /-- `err`, last error (R27). -/
  err : Err
  /-- `VERIFY_CK`, receive checksum verification on (R40). -/
  verifyCk : Bool
  /-- `TMO_POLL_EN`, the poll wait is bounded (R40). -/
  tmoPollEn : Bool
  /-- `TMO_ACK`, deadline of ACK/NAK correlation in ticks (R41). -/
  tmoAck : Word
  /-- `TMO_POLL`, deadline of the poll wait in ticks (R42). -/
  tmoPoll : Word
  /-- `tx`, everything transmitted since reset, first byte first (R20, R63). -/
  tx : List Byte
  /-- The model's own: the events the environment presents, next one first (R9, log entry 1). -/
  inputs : List Event
  /-- The model's own: the environment's draw of the command being consumed (R52, log entry 10). -/
  draw : WriteDraw
  /-- The model's own: how many free values have been drawn (log entry 2). -/
  freeCtr : Nat
  deriving DecidableEq, Repr

/-- Why the machine reports a fault. No step raises one: the only error of a program is a host read. -/
inductive Fault where
  /-- Raised by a host read of register MODEL when it holds no model byte, which U3 tells a model to report (R26, R45).
  Safe: the read gives no byte. -/
  | modelNotValid
  deriving DecidableEq, Repr

/-- Why an event or an instruction has no step. -/
inductive Refusal where
  /-- Raised by `exec` for an instruction without a meaning; none is left. Safe. -/
  | notModelled (mnemonic : String)
  /-- Raised by the command words and the transmit rows in Sent and in Failed, where `Cmd` is not enabled (R8, R212, R239,
  U15 `refuse`). Safe: the block has no step there. -/
  | cmdNotEnabled
  /-- Raised by `CfgWr` in Sent, where it is not enabled (R8, R221, U15 `refuse`). Safe: the block has no step there. -/
  | cfgWrNotEnabled
  /-- Raised by `RxByte`, the sync bytes and the receive rows outside Sent, where `RxByte` is not enabled (R8, R150, U15
  `refuse`). Safe: the block has no step there. -/
  | rxByteNotEnabled
  /-- Raised by `RxFail` outside Sent, where it is not enabled (R8, R233, U15 `refuse`). Safe: the block has no step
  there. -/
  | rxFailNotEnabled
  deriving DecidableEq, Repr

/-- The state after reset for a given `TICK_HZ`: the values of R51. DESIGN CHOICE (log entry 4): the registers R51 calls
`unspecified` hold zero here, and the model's own fields are empty (log entries 1, 2, 10). -/
def State.resetFor (tickHz : Nat) : State where
  xstate := .idle
  pstate := .sync1
  rxIdx := 0#16
  rxCls := 0#8
  rxId := 0#8
  rxLen := 0#16
  rxP0 := 0#8
  rxP1 := 0#8
  rxP2 := 0#8
  rxCkA := 0#8
  rxCkB := 0#8
  rxCkaRecv := 0#8
  reqCls := 0#8
  reqId := 0#8
  wantAck := false
  wantResp := false
  expCls := 0#8
  expId := 0#8
  dlEn := false
  dlCnt := 0#32
  model := none
  err := .none
  verifyCk := Config.verifyCkReset
  tmoPollEn := Config.tmoPollEnReset
  tmoAck := BitVec.ofNat 32 (Config.ackTimeoutS * tickHz)
  tmoPoll := 0#32
  tx := []
  inputs := []
  draw := ⟨true, 0⟩
  freeCtr := 0

/-- The machine right after reset (R51, R260), for the open parameter `TICK_HZ`. -/
def State.reset : State := State.resetFor Config.tickHz

end Sys2Proof.Machine
end

