-- ==== Sys2Proof/Machine/Flags.lean ====
section
/-! DEFINITION. The status flags, functions of the registers with no state of their own (R30), the numeric codes of the
enumerations (R21, R27, R28, R30), and the register words built from them (R40, R43 to R46). -/

namespace Sys2Proof.Machine

/-- `busy` (R30). -/
def busy (s : State) : Bool := s.xstate == .sent

/-- `done` (R30). -/
def done (s : State) : Bool :=
  s.xstate == .acked || s.xstate == .naked || s.xstate == .responded || s.xstate == .timedOut || s.xstate == .failed

/-- `rx_ready`, equal to `busy` (R30). -/
def rxReady (s : State) : Bool := s.xstate == .sent

/-- `cmd_ready`: a `Cmd` is enabled (R30, R210). -/
def cmdReady (s : State) : Bool :=
  s.xstate == .idle || s.xstate == .acked || s.xstate == .naked || s.xstate == .responded || s.xstate == .timedOut

/-- `model_valid` (R26). -/
def modelValid (s : State) : Bool := s.model.isSome

/-- The document's TriState, with None where there is no result (R30). -/
inductive Result where
  | none
  | success
  | rejected
  | unknown
  deriving DecidableEq, Repr

/-- `result` (R30): a timeout is Unknown, distinct from Rejected (R44, R191). -/
def result (s : State) : Result :=
  match s.xstate with
  | .acked => .success
  | .naked => .rejected
  | .timedOut => .unknown
  | .idle => .none
  | .sent => .none
  | .responded => .none
  | .failed => .none

/-- The code of an exchange state (R21). -/
def xstateCode : XState → BitVec 3
  | .idle => 0#3
  | .sent => 1#3
  | .acked => 2#3
  | .naked => 3#3
  | .responded => 4#3
  | .timedOut => 5#3
  | .failed => 6#3

/-- The code of a parser position (R28). -/
def pstateCode : PState → BitVec 4
  | .sync1 => 0#4
  | .sync2 => 1#4
  | .cls => 2#4
  | .ident => 3#4
  | .len0 => 4#4
  | .len1 => 5#4
  | .payload => 6#4
  | .ckA => 7#4
  | .ckB => 8#4

/-- The code of an error (R27). -/
def errCode : Err → BitVec 2
  | .none => 0#2
  | .eLen => 1#2
  | .eXport => 2#2
  | .eOp => 3#2

/-- The code of a result (R30, R44). -/
def resultCode : Result → BitVec 2
  | .none => 0#2
  | .success => 1#2
  | .rejected => 2#2
  | .unknown => 3#2

/-- CTRL (R40). -/
def ctrlWord (s : State) : Word := 0#30 ++ BitVec.ofBool s.tmoPollEn ++ BitVec.ofBool s.verifyCk

/-- STATUS (R43). -/
def statusWord (s : State) : Word :=
  0#21 ++ BitVec.ofBool s.dlEn ++ BitVec.ofBool (modelValid s) ++ BitVec.ofBool (done s) ++ BitVec.ofBool (busy s) ++
    pstateCode s.pstate ++ xstateCode s.xstate

/-- RESULT (R44). -/
def resultWord (s : State) : Word := 0#30 ++ resultCode (result s)

/-- ERR (R46). -/
def errWord (s : State) : Word := 0#30 ++ errCode s.err

end Sys2Proof.Machine
end

