-- ==== Sys2Proof/Machine/Checksum.lean ====
section
/-! DEFINITION. Family 1, the checksum generator CKGEN (R110 to R116): a Fletcher-style pair of 8-bit sums, not a CRC
(90_conflicts C1). The transmit copy is a pure fold; the receive copy is the pair `rx_ck_a`, `rx_ck_b`. -/

namespace Sys2Proof.Machine

/-- CK.ABS on a pair of accumulators: `ck_a` first, then `ck_b` with the new `ck_a`, both modulo 256 (R112). -/
def absorb (ck : Byte × Byte) (b : Byte) : Byte × Byte := (ck.1 + b, ck.2 + (ck.1 + b))

/-- `compute_checksum`: CK.CLR, then CK.ABS of every byte in order (R113). -/
def computeChecksum (s : List Byte) : Byte × Byte := s.foldl absorb (0#8, 0#8)

/-- The step of the unbounded formulation, on natural numbers (R114). -/
def absorbUnbounded (acc : Nat × Nat) (b : Byte) : Nat × Nat := (acc.1 + b.toNat, acc.2 + (acc.1 + b.toNat))

/-- The unbounded formulation: accumulate without a bound, reduce modulo 256 at the end (R114). -/
def unboundedChecksum (s : List Byte) : Byte × Byte :=
  let acc := s.foldl absorbUnbounded (0, 0)
  (BitVec.ofNat 8 acc.1, BitVec.ofNat 8 acc.2)

/-- CK.CLR on the receive accumulators (R111, R153). -/
def ckClear (s : State) : State := { s with rxCkA := 0#8, rxCkB := 0#8 }

/-- CK.ABS(b) on the receive accumulators (R112, R154 to R158). -/
def ckAbsorb (b : Byte) (s : State) : State :=
  { s with rxCkA := (absorb (s.rxCkA, s.rxCkB) b).1, rxCkB := (absorb (s.rxCkA, s.rxCkB) b).2 }

/-- CK.CLR (R111), on the only accumulators that are state (log entry 11). -/
def execCkClr (s : State) : Host.Outcome State Fault Refusal := .next (ckClear s)

/-- CK.ABS(b) (R112), on the only accumulators that are state (log entry 11). -/
def execCkAbs (b : Byte) (s : State) : Host.Outcome State Fault Refusal := .next (ckAbsorb b s)

end Sys2Proof.Machine
end

