-- ==== Sys2Proof/WellFormed.lean ====
section
/-! DEFINITION. Which terms of `Instr` stand for words of the opcode table. The catch-all rows stand only for the
words no earlier row takes (R92, R98, R104), and a frame's payload has at most 65535 bytes (R130). -/

namespace Sys2Proof

/-- The command words R97 gives an operation, field by field; every other word is reserved (R98). -/
def legalCommandWord (cw : Word) : Bool :=
  let op := cw.extractLsb' 28 4
  let reserved := cw.extractLsb' 24 4
  let a := cw.extractLsb' 16 8
  let m := cw.extractLsb' 0 16
  reserved == 0#4 &&
    ((op == 1#4 && a == 0#8 && m == 0#16) || (op == 2#4 && m == 0#16) || op == 3#4 || op == 4#4 ||
      (op == 5#4 && m.extractLsb' 0 8 == 0#8))

/-- The (class, id) pairs that have a receive row of their own (R92). -/
def knownReceived (cls id : Byte) : Bool :=
  (cls == Config.clsAck && (id == Config.idAck || id == Config.idNak)) ||
    (cls == Config.clsCfg && id == Config.idNav5)

/-- The headers that have a transmit row of their own (R92). -/
def knownTransmitted (cls id : Byte) (len : Nat) : Bool :=
  (cls == Config.clsCfg && id == Config.idNav5 && (len == 0 || len == Config.nav5SetLen)) ||
    (cls == Config.clsCfg && id == Config.idRst && len == Config.rstLen)

/-- Well-formed instructions. -/
def Instr.wf : Instr → Bool
  | .txNav5Poll => true
  | .txNav5Set _ => true
  | .txCfgRst _ _ => true
  | .txRaw cls id payload => decide (payload.length ≤ Config.maxPayload) && !knownTransmitted cls id payload.length
  | .rxAckAck _ => true
  | .rxAckNak _ => true
  | .rxNav5Resp _ => true
  | .rxOther cls id _ => !knownReceived cls id
  | .poll => true
  | .set _ => true
  | .rstf _ _ => true
  | .rstc _ _ => true
  | .raw _ _ _ => true
  | .cwIllegal cw => !legalCommandWord cw
  | .rxSync1 => true
  | .rxSync2 => true
  | .ckClr => true
  | .ckAbs _ => true

end Sys2Proof
end

