-- ==== Sys2Proof/Decode.lean ====
section
/-! DEFINITION. Byte order, the decoder and, after it, the encoder: from the encodings of R80 to R99 and the rows of
R104 to instructions and back. The decoder is total: where it reads no instruction it says why. -/

namespace Sys2Proof

/-! Byte order: every multi-byte quantity on the wire is little-endian (R11, R67). -/

/-- `lo8(v) = v[7:0]` (R11). -/
def lo8 (v : Half) : Byte := v.extractLsb' 0 8

/-- `hi8(v) = v[15:8]` (R11). -/
def hi8 (v : Half) : Byte := v.extractLsb' 8 8

/-- `le16(b0, b1) = b0 + 256·b1` (R11). -/
def le16 (b0 b1 : Byte) : Half := b1 ++ b0

/-- `LE16(v)`: low byte first (R11). -/
def leBytes (v : Half) : List Byte := [lo8 v, hi8 v]

/-- A header word from its six bytes, offset 0 in bits 47:40 (R81). -/
def headerOf (b0 b1 b2 b3 b4 b5 : Byte) : Header := b0 ++ b1 ++ b2 ++ b3 ++ b4 ++ b5

/-- The header word of a frame with the given class, id and length (R80, R81). -/
def headerWord (cls id : Byte) (len : Half) : Header :=
  headerOf Config.sync1 Config.sync2 cls id (lo8 len) (hi8 len)

/-- The byte of a header word at frame offset `i` (R81). -/
def headerByte (h : Header) (i : Nat) : Byte := h.extractLsb' (8 * (5 - i)) 8

/-- The length field of a header word: offset 4 is the low byte (R81, R84). -/
def headerLen (h : Header) : Half := le16 (headerByte h 4) (headerByte h 5)

/-- A row of the opcode table applies to a word iff `(word and mask) = match` (R104). -/
def rowApplies {w : Nat} (mask pattern word : BitVec w) : Bool := word &&& mask == pattern

/-! The decoder. -/

/-- The host's command words: rows of R97 in table order, then the catch-all CW.ILLEGAL (R98, R104). The payload
sequence is RAW's operand and is ignored with every other word (R98). -/
def decodeCommand (cw : Word) (payload : List Byte) : Instr :=
  if rowApplies 0xFFFFFFFF#32 0x10000000#32 cw then .poll
  else if rowApplies 0xFF00FFFF#32 0x20000000#32 cw then .set (cw.extractLsb' 16 8)
  else if rowApplies 0xFF000000#32 0x30000000#32 cw then .rstf (cw.extractLsb' 16 8) (cw.extractLsb' 0 16)
  else if rowApplies 0xFF000000#32 0x40000000#32 cw then .rstc (cw.extractLsb' 16 8) (cw.extractLsb' 0 16)
  else if rowApplies 0xFF0000FF#32 0x50000000#32 cw then .raw (cw.extractLsb' 16 8) (cw.extractLsb' 8 8) payload
  else .cwIllegal cw

/-- The header of a completed received frame: the receive rows of R92 in table order, on the class, id and length the
parser latched. The further conditions of R184 to R186 are the meanings'. -/
def decodeReceived (cls id : Byte) (len : Half) : Instr :=
  if cls == Config.clsAck && id == Config.idAck then .rxAckAck len
  else if cls == Config.clsAck && id == Config.idNak then .rxAckNak len
  else if cls == Config.clsCfg && id == Config.idNav5 then .rxNav5Resp len
  else .rxOther cls id len

/-- How many operand bytes the builder of a transmitted frame takes: none for the poll (R133), the model (R134), the
mask and the reset type (R135), the whole payload (R218). -/
def transmitOperands (h : Header) : Nat :=
  if rowApplies 0xFFFFFFFFFFFF#48 0xB56206240000#48 h then 0
  else if rowApplies 0xFFFFFFFFFFFF#48 0xB56206242400#48 h then 1
  else if rowApplies 0xFFFFFFFFFFFF#48 0xB56206040400#48 h then 3
  else (headerLen h).toNat

/-- A frame TXASM sends: the transmit rows of R92 in table order, and the operand bytes, which stand in the order in
which the payload carries them (R87, R88). -/
def decodeTransmit (h : Header) (operands : List Byte) : Except DecodeError Instr :=
  if operands.length ≠ transmitOperands h then
    if rowApplies 0xFFFF00000000#48 0xB56200000000#48 h then .error .operandCount else .error .badSync
  else if rowApplies 0xFFFFFFFFFFFF#48 0xB56206240000#48 h then .ok .txNav5Poll
  else if rowApplies 0xFFFFFFFFFFFF#48 0xB56206242400#48 h then .ok (.txNav5Set (operands.getD 0 0#8))
  else if rowApplies 0xFFFFFFFFFFFF#48 0xB56206040400#48 h then
    .ok (.txCfgRst (operands.getD 2 0#8) (le16 (operands.getD 0 0#8) (operands.getD 1 0#8)))
  else if rowApplies 0xFFFF00000000#48 0xB56200000000#48 h then .ok (.txRaw (headerByte h 2) (headerByte h 3) operands)
  else .error .badSync

/-- The decoder, total on every form: R104's rows, first row that applies. -/
def decode : Presented → Except DecodeError Instr
  | .command cw payload => .ok (decodeCommand cw payload)
  | .transmit h operands => decodeTransmit h operands
  | .receive h =>
    if rowApplies 0xFFFF00000000#48 0xB56200000000#48 h then
      .ok (decodeReceived (headerByte h 2) (headerByte h 3) (headerLen h))
    else .error .badSync
  | .streamByte b =>
    if rowApplies 0xFF#8 0xB5#8 b then .ok .rxSync1
    else if rowApplies 0xFF#8 0x62#8 b then .ok .rxSync2
    else .error .notASyncByte
  | .micro none => .ok .ckClr
  | .micro (some b) => .ok (.ckAbs b)

/-- Which way a frame goes (the opcode table's `direction`). -/
inductive Direction where
  | transmit
  | receive
  deriving DecidableEq, Repr

/-- The decoder on wire bytes: six header bytes, offset 0 first, then (on transmit) the operand bytes. -/
def decodeBytes (dir : Direction) : List Byte → Except DecodeError Instr
  | b0 :: b1 :: b2 :: b3 :: b4 :: b5 :: rest =>
    match dir with
    | .transmit => decode (.transmit (headerOf b0 b1 b2 b3 b4 b5) rest)
    | .receive => decode (.receive (headerOf b0 b1 b2 b3 b4 b5))
  | _ => .error .truncated

/-- DESIGN CHOICE (log entry 8): the direction read into a bare 48-bit table word, which carries none. The rows with
the longest mask come first: a word of one of the three whole-header transmit rows is transmitted; another word whose
class and id have a receive row is received; every other word is TX.RAW's, which stands before RX.OTHER. -/
def tableDirection (h : Header) : Direction :=
  if knownTransmitted (headerByte h 2) (headerByte h 3) (headerLen h).toNat then .transmit
  else if knownReceived (headerByte h 2) (headerByte h 3) then .receive
  else .transmit

/-- The six bytes of a header word in wire order (R81). -/
def headerBytes (h : Header) : List Byte :=
  [headerByte h 0, headerByte h 1, headerByte h 2, headerByte h 3, headerByte h 4, headerByte h 5]

/-- The instruction the decoder reads from a word of the opcode table: 32 bits a command word (with an empty payload),
48 bits a header word (with operand bytes of zeros), 8 bits a stream byte, 0 bits the first micro-operation row. -/
def decodeTableWord (nbits w : Nat) : Option Instr :=
  match nbits with
  | 0 => (decode (.micro none)).toOption
  | 8 => (decode (.streamByte (BitVec.ofNat 8 w))).toOption
  | 32 => (decode (.command (BitVec.ofNat 32 w) [])).toOption
  | 48 =>
    let h := BitVec.ofNat 48 w
    match tableDirection h with
    | .transmit => (decodeBytes .transmit (headerBytes h ++ List.replicate (transmitOperands h) 0#8)).toOption
    | .receive => (decodeBytes .receive (headerBytes h)).toOption
  | _ => none

/-! The encoder, from R97 and R92. -/

/-- A command word from its fields `op`, `a`, `m` of R96; the reserved bits are 0. -/
def commandWord (op : BitVec 4) (a : Byte) (m : Half) : Word := op ++ 0#4 ++ a ++ m

/-- The presented form of an instruction. -/
def encode : Instr → Presented
  | .txNav5Poll => .transmit (headerWord Config.clsCfg Config.idNav5 0#16) []
  | .txNav5Set model => .transmit (headerWord Config.clsCfg Config.idNav5 36#16) [model]
  | .txCfgRst t mask => .transmit (headerWord Config.clsCfg Config.idRst 4#16) (leBytes mask ++ [t])
  | .txRaw cls id payload => .transmit (headerWord cls id (BitVec.ofNat 16 payload.length)) payload
  | .rxAckAck len => .receive (headerWord Config.clsAck Config.idAck len)
  | .rxAckNak len => .receive (headerWord Config.clsAck Config.idNak len)
  | .rxNav5Resp len => .receive (headerWord Config.clsCfg Config.idNav5 len)
  | .rxOther cls id len => .receive (headerWord cls id len)
  | .poll => .command (commandWord 1#4 0#8 0#16) []
  | .set model => .command (commandWord 2#4 model 0#16) []
  | .rstf t mask => .command (commandWord 3#4 t mask) []
  | .rstc t mask => .command (commandWord 4#4 t mask) []
  | .raw cls id payload => .command (commandWord 5#4 cls (id ++ 0#8)) payload
  | .cwIllegal cw => .command cw []
  | .rxSync1 => .streamByte Config.sync1
  | .rxSync2 => .streamByte Config.sync2
  | .ckClr => .micro none
  | .ckAbs b => .micro (some b)

end Sys2Proof
end

