-- ==== Sys2Proof/Machine/Operands.lean ====
section
/-! DEFINITION. Operand assembly: the payload builders (R133 to R135) and the split of a length into its two wire bytes
(R84). -/

namespace Sys2Proof.Machine

/-- `nav5_poll_payload()`: empty (R86, R133). -/
def nav5PollPayload : List Byte := []

/-- `nav5_set_payload(model)`: mask 0x0001, the model byte as given, fix mode 2, 32 zero bytes (R87, R134). -/
def nav5SetPayload (model : Byte) : List Byte :=
  leBytes Config.nav5MaskDyn ++ [model, Config.fixModeAuto] ++ List.replicate 32 0#8

/-- `rst_payload(reset_type, retain_mask)`: the mask little-endian, the selector as given, a zero byte (R88, R135). -/
def rstPayload (resetType : Byte) (retainMask : Half) : List Byte :=
  leBytes retainMask ++ [resetType, 0#8]

/-- The two length bytes of a payload of `n` bytes: `N mod 256`, `N div 256` (R84, R131). -/
def lengthBytes (n : Nat) : List Byte := leBytes (BitVec.ofNat 16 n)

end Sys2Proof.Machine
end

