-- ==== Sys2Proof/Machine/Frame.lean ====
section
/-! DEFINITION. Family 2, the frame functions of TXASM (R130 to R140): pure, they read and write no register (R140). -/

namespace Sys2Proof.Machine

/-- The bytes a frame's checksum covers: class, id, length, payload (R115, R131). -/
def frameBody (cls id : Byte) (payload : List Byte) : List Byte :=
  [cls, id] ++ lengthBytes payload.length ++ payload

/-- `assemble_frame(class, id, payload)`; `none` is the constraint violation of a payload over 65535 bytes, tested
before anything else (R130, R131). -/
def assembleFrame (cls id : Byte) (payload : List Byte) : Option (List Byte) :=
  if payload.length ≤ Config.maxPayload then
    let body := frameBody cls id payload
    let ck := computeChecksum body
    some ([Config.sync1, Config.sync2] ++ body ++ [ck.1, ck.2])
  else none

/-- What `decode_frame` recovers from a frame (R136). -/
structure FrameFields where
  cls : Byte
  id : Byte
  length : Nat
  payload : List Byte
  ckA : Byte
  ckB : Byte
  deriving DecidableEq, Repr

/-- `decode_frame(f)` (R136): the fields by frame offset; the checksum is not checked. -/
def decodeFrame : List Byte → Option FrameFields
  | s1 :: s2 :: cls :: id :: l0 :: l1 :: rest =>
    let n := (le16 l0 l1).toNat
    if s1 = Config.sync1 ∧ s2 = Config.sync2 ∧ rest.length = n + 2 then
      some { cls := cls, id := id, length := n, payload := rest.take n, ckA := rest.getD n 0#8, ckB := rest.getD (n + 1) 0#8 }
    else none
  | _ => none

/-- `well_formed(f)`: the checksum recomputed over offsets 2 to `5 + N` is the trailing two bytes (R138). -/
def wellFormedFrame (f : List Byte) : Bool :=
  match decodeFrame f with
  | some d => decide (computeChecksum ((f.drop 2).take (4 + d.length)) = (d.ckA, d.ckB))
  | none => false

end Sys2Proof.Machine
end

