-- ==== Sys2Proof/Machine/Ops.lean ====
section
/-! DEFINITION. The shared operations: drawing free values, taking an exception and leaving one, writing the transmit
stream, sending a frame, opening an exchange, and the block reset. -/

namespace Sys2Proof.Machine

/-! Free values (R12 `unspecified`): the `j`-th value not yet drawn. -/

/-- The `j`-th undrawn free word. -/
def freeWord (s : State) (j : Nat) : Word := Config.freeValue (s.freeCtr + j)

/-- The `j`-th undrawn free value, as a 16-bit register. -/
def freeHalf (s : State) (j : Nat) : Half := (freeWord s j).setWidth 16

/-- The `j`-th undrawn free value, as a byte. -/
def freeByte (s : State) (j : Nat) : Byte := (freeWord s j).setWidth 8

/-! Exceptions. -/

/-- Exception entry (R230 to R233, R239): the code in `err`, and Idle for `E_LEN` and `E_OP`, Failed for `E_XPORT`.
Nothing else is written: no state is saved and control goes nowhere. -/
def raise (e : Err) (s : State) : State :=
  { s with err := e, xstate := if e = .eXport then .failed else .idle }

/-- Step 1 of an accepted `Cmd` (R210): the previous result is dropped. There is no return instruction; this is how
`E_LEN` and `E_OP` are left (R240). -/
def accept (s : State) : State := { s with err := .none, model := none, xstate := .idle }

/-! The transmit stream. -/

/-- `TxWrite`: the bytes appended to `tx` in index order (R63). -/
def txWrite (bytes : List Byte) (s : State) : State := { s with tx := s.tx ++ bytes }

/-- The part of a frame that goes out when its write fails: a proper part from the start (R63, R211). -/
def failedPart (k : Nat) (frame : List Byte) : List Byte := frame.take (min k (frame.length - 1))

/-- Steps 3 to 5 of R210: test the length (`E_LEN`), assemble the frame, write it (`E_XPORT` if the environment fails
the write); `after` is what a command does once its frame is out. -/
def sendFrame (cls id : Byte) (payload : List Byte) (after : State → State) (s : State) : State :=
  match assembleFrame cls id payload with
  | none => raise .eLen s
  | some frame =>
    if s.draw.txok then after (txWrite frame s) else raise .eXport (txWrite (failedPart s.draw.k frame) s)

/-! Opening an exchange. -/

/-- The operands of R213, with how many free values they draw. -/
structure Exchange where
  reqCls : Byte
  reqId : Byte
  wantAck : Bool
  wantResp : Bool
  expCls : Byte
  expId : Byte
  dlEn : Bool
  dlCnt : Word
  draws : Nat
  deriving DecidableEq, Repr

/-- Opening the exchange, Idle to Sent (R213). -/
def openExchange (x : Exchange) (s : State) : State :=
  { s with
    reqCls := x.reqCls, reqId := x.reqId, wantAck := x.wantAck, wantResp := x.wantResp, expCls := x.expCls,
    expId := x.expId, dlEn := x.dlEn, dlCnt := x.dlCnt, freeCtr := s.freeCtr + x.draws, pstate := .sync1,
    xstate := .sent }

/-- POLL's exchange: the data response (0x06, 0x24), bounded by TMO_POLL if enabled (R183, R214). -/
def pollExchange (s : State) : Exchange where
  reqCls := Config.clsCfg
  reqId := Config.idNav5
  wantAck := false
  wantResp := true
  expCls := Config.clsCfg
  expId := Config.idNav5
  dlEn := s.tmoPollEn
  dlCnt := s.tmoPoll
  draws := 0

/-- The exchange of SET and RSTC: ACK or NAK naming the request, bounded by TMO_ACK; `ec`, `ei` are unspecified, so free
values (R183, R215, R217). -/
def ackExchange (reqId : Byte) (s : State) : Exchange where
  reqCls := Config.clsCfg
  reqId := reqId
  wantAck := true
  wantResp := false
  expCls := freeByte s 0
  expId := freeByte s 1
  dlEn := true
  dlCnt := s.tmoAck
  draws := 2

/-! The block reset. -/

/-- `Reset` (R260) for a given `TICK_HZ`: the registers R51 gives a value hold it, every other register is unspecified, so
a free value; the transmit record starts empty (U23); the environment's events are not the block's to change. -/
def blockReset (tickHz : Nat) (s : State) : State :=
  { s with
    xstate := .idle, pstate := .sync1, wantAck := false, wantResp := false, dlEn := false, model := none, err := .none,
    verifyCk := Config.verifyCkReset, tmoPollEn := Config.tmoPollEnReset,
    tmoAck := BitVec.ofNat 32 (Config.ackTimeoutS * tickHz), tx := [],
    rxIdx := freeHalf s 0, rxCls := freeByte s 1, rxId := freeByte s 2, rxLen := freeHalf s 3, rxP0 := freeByte s 4,
    rxP1 := freeByte s 5, rxP2 := freeByte s 6, rxCkA := freeByte s 7, rxCkB := freeByte s 8, rxCkaRecv := freeByte s 9,
    reqCls := freeByte s 10, reqId := freeByte s 11, expCls := freeByte s 12, expId := freeByte s 13,
    dlCnt := freeWord s 14, tmoPoll := freeWord s 15, freeCtr := s.freeCtr + 16 }

end Sys2Proof.Machine
end

