-- ==== Sys2Proof/Machine/Commands.lean ====
section
/-! DEFINITION. Family 5, the host commands (R210 to R220). -/

namespace Sys2Proof.Machine

/-- The `Cmd` step around a command's own effect: enabled in Idle and the terminal states but Failed; step 1 of R210
first (R210, R212). -/
def commandStep (effect : State → State) (s : State) : Host.Outcome State Fault Refusal :=
  if cmdReady s then .next (effect (accept s)) else .refused .cmdNotEnabled

/-- POLL: the poll frame, then the exchange that waits for the data response (R214). -/
def execPoll (s : State) : Host.Outcome State Fault Refusal :=
  commandStep (sendFrame Config.clsCfg Config.idNav5 nav5PollPayload fun t => openExchange (pollExchange t) t) s

/-- SET: the set frame with the model byte as given, then the exchange that waits for ACK or NAK (R215). -/
def execSet (model : Byte) (s : State) : Host.Outcome State Fault Refusal :=
  commandStep
    (sendFrame Config.clsCfg Config.idNav5 (nav5SetPayload model) fun t => openExchange (ackExchange Config.idNav5 t) t) s

/-- RSTF: the reset frame, and no exchange (R216). -/
def execRstf (resetType : Byte) (retainMask : Half) (s : State) : Host.Outcome State Fault Refusal :=
  commandStep (sendFrame Config.clsCfg Config.idRst (rstPayload resetType retainMask) fun t => t) s

/-- RSTC: the reset frame, then the exchange that waits for ACK or NAK (R217). -/
def execRstc (resetType : Byte) (retainMask : Half) (s : State) : Host.Outcome State Fault Refusal :=
  commandStep
    (sendFrame Config.clsCfg Config.idRst (rstPayload resetType retainMask) fun t =>
      openExchange (ackExchange Config.idRst t) t) s

/-- RAW: the frame of the given class, id and payload, and no exchange; `E_LEN` over 65535 bytes (R218, R230). -/
def execRaw (cls id : Byte) (payload : List Byte) (s : State) : Host.Outcome State Fault Refusal :=
  commandStep (sendFrame cls id payload fun t => t) s

/-- CW.ILLEGAL: the event is consumed and `E_OP` is raised, whatever the reserved word (R98, R219, R231). -/
def execCwIllegal (_cw : Word) (s : State) : Host.Outcome State Fault Refusal :=
  commandStep (raise .eOp) s

end Sys2Proof.Machine
end

