-- ==== Sys2Proof/Machine/Correlate.lean ====
section
/-! DEFINITION. Family 4, the correlation engine CORR (R180 to R196): how a completed received frame is classified
against the pending request, and the deadline. -/

namespace Sys2Proof.Machine

/-- The condition of R184 (with `code` = 0x01) and R185 (0x00): an acknowledgement frame naming the pending request. -/
def namesRequest (code cls id : Byte) (len : Half) (s : State) : Bool :=
  s.wantAck && cls == Config.clsAck && id == code && decide (2 ≤ len.toNat) && s.rxP0 == s.reqCls && s.rxP1 == s.reqId

/-- The condition of R186: the expected data response. -/
def isResponse (cls id : Byte) (len : Half) (s : State) : Bool :=
  s.wantResp && cls == s.expCls && id == s.expId && decide (2 ≤ len.toNat)

/-- Classification (R182): R184, R185, R186 in this order, else the frame is discarded (R187). A response of length 2
carries no model (R186). -/
def classify (cls id : Byte) (len : Half) (s : State) : State :=
  if namesRequest Config.idAck cls id len s then { s with xstate := .acked }
  else if namesRequest Config.idNak cls id len s then { s with xstate := .naked }
  else if isResponse cls id len s then
    { s with xstate := .responded, model := if 3 ≤ len.toNat then some s.rxP2 else none }
  else s

/-- A receive row: the classification of a completed frame, which happens only in Sent (R150, R182). -/
def classifyStep (cls id : Byte) (len : Half) (s : State) : Host.Outcome State Fault Refusal :=
  if s.xstate = .sent then .next (classify cls id len s) else .refused .rxByteNotEnabled

/-- UBX.RX.ACK-ACK: Acked if it names the request (R184), else discarded (R187). -/
def execRxAckAck (len : Half) (s : State) : Host.Outcome State Fault Refusal :=
  classifyStep Config.clsAck Config.idAck len s

/-- UBX.RX.ACK-NAK: Naked if it names the request (R185), else discarded (R187). -/
def execRxAckNak (len : Half) (s : State) : Host.Outcome State Fault Refusal :=
  classifyStep Config.clsAck Config.idNak len s

/-- UBX.RX.CFG-NAV5.RESP: Responded if it is the expected response (R186), else discarded (R187). -/
def execRxNav5Resp (len : Half) (s : State) : Host.Outcome State Fault Refusal :=
  classifyStep Config.clsCfg Config.idNav5 len s

/-- UBX.RX.OTHER: discarded (R187), unless the pending request expects just this header (R182: the function is defined
for every register content). -/
def execRxOther (cls id : Byte) (len : Half) (s : State) : Host.Outcome State Fault Refusal :=
  classifyStep cls id len s

/-- The receive row of a header the parser latched, run (R92; it is `exec` of `decodeReceived`, stated in
`Certificates/Slice0/Obligations.lean`). -/
def runReceived (cls id : Byte) (len : Half) (s : State) : Host.Outcome State Fault Refusal :=
  if cls == Config.clsAck && id == Config.idAck then execRxAckAck len s
  else if cls == Config.clsAck && id == Config.idNak then execRxAckNak len s
  else if cls == Config.clsCfg && id == Config.idNav5 then execRxNav5Resp len s
  else execRxOther cls id len s

/-- `Tick` (R190): in Sent with a deadline, the counter runs down, and the tick that finds it 0 times the exchange out. -/
def tick (s : State) : State :=
  if s.xstate = .sent ∧ s.dlEn = true then
    if s.dlCnt = 0#32 then { s with xstate := .timedOut } else { s with dlCnt := s.dlCnt - 1#32 }
  else s

/-- `model_name(code)` (R195): the document's ten names, read in order of the codes 0 to 9. -/
def modelName (code : Byte) : String :=
  match code.toNat with
  | 0 => "Portable"
  | 1 => "Stationary"
  | 2 => "Pedestrian"
  | 3 => "Automotive"
  | 4 => "Sea"
  | 5 => "Airborne <4g"
  | 6 => "Airborne <1g"
  | 7 => "Airborne <2g"
  | 8 => "Wrist"
  | 9 => "Bike"
  | _ => "Unknown"

end Sys2Proof.Machine
end

