-- ==== Sys2Proof/Machine/Receive.lean ====
section
/-! DEFINITION. Family 3, the receive parser RXPARSE (R150 to R163): one operation per parser position. -/

namespace Sys2Proof.Machine

/-- P_SYNC1, searching for 0xB5 (R151). -/
def rxSearch (b : Byte) (s : State) : State :=
  { s with pstate := if b = Config.sync1 then .sync2 else .sync1 }

/-- P_SYNC2: 0x62 matches the sync sequence and clears the receive accumulators (R153); after any other byte the detector
stays armed only for 0xB5 with `SYNC_OVERLAP` (R152). -/
def rxSecondSync (overlap : Bool) (b : Byte) (s : State) : State :=
  if b = Config.sync2 then { ckClear s with pstate := .cls }
  else { s with pstate := if b = Config.sync1 ∧ overlap = true then .sync2 else .sync1 }

/-- P_CLASS (R154). -/
def rxClass (b : Byte) (s : State) : State := { ckAbsorb b s with rxCls := b, pstate := .ident }

/-- P_ID (R155). -/
def rxIdent (b : Byte) (s : State) : State := { ckAbsorb b s with rxId := b, pstate := .len0 }

/-- P_LEN0, the low byte of the length (R156). -/
def rxLengthLow (b : Byte) (s : State) : State :=
  { ckAbsorb b s with rxLen := le16 b (hi8 s.rxLen), pstate := .len1 }

/-- P_LEN1, the high byte of the length; a length of 0 skips the payload (R157). -/
def rxLengthHigh (b : Byte) (s : State) : State :=
  let len := le16 (lo8 s.rxLen) b
  { ckAbsorb b s with rxLen := len, rxIdx := 0#16, pstate := if len = 0#16 then .ckA else .payload }

/-- P_PAYLOAD: bytes 0, 1 and 2 are latched, every byte is absorbed, and the last of `rx_len` bytes ends the payload
(R158). -/
def rxPayload (b : Byte) (s : State) : State :=
  { ckAbsorb b s with
    rxP0 := if s.rxIdx = 0#16 then b else s.rxP0
    rxP1 := if s.rxIdx = 1#16 then b else s.rxP1
    rxP2 := if s.rxIdx = 2#16 then b else s.rxP2
    rxIdx := s.rxIdx + 1#16
    pstate := if s.rxIdx + 1#16 = s.rxLen then .ckA else .payload }

/-- P_CKA, the first checksum byte, not absorbed (R159). -/
def rxFirstCheck (b : Byte) (s : State) : State := { s with rxCkaRecv := b, pstate := .ckB }

/-- `ck_ok`: the two received checksum bytes are the accumulators (R160, R161). -/
def checkOk (b : Byte) (s : State) : Bool := s.rxCkaRecv == s.rxCkA && b == s.rxCkB

/-- P_CKB, the second checksum byte: the frame is complete. The parser returns to P_SYNC1; with `VERIFY_CK` on a frame
whose checksum is wrong is discarded, else it is classified (R160, R161). -/
def rxComplete (b : Byte) (s : State) : Host.Outcome State Fault Refusal :=
  if s.verifyCk && !checkOk b s then .next { s with pstate := .sync1 }
  else runReceived s.rxCls s.rxId s.rxLen { s with pstate := .sync1 }

/-- `RxByte(b)` for a given `SYNC_OVERLAP`: enabled only in Sent, one rule by the parser position (R150). -/
def receiveWith (overlap : Bool) (b : Byte) (s : State) : Host.Outcome State Fault Refusal :=
  if s.xstate = .sent then
    match s.pstate with
    | .sync1 => .next (rxSearch b s)
    | .sync2 => .next (rxSecondSync overlap b s)
    | .cls => .next (rxClass b s)
    | .ident => .next (rxIdent b s)
    | .len0 => .next (rxLengthLow b s)
    | .len1 => .next (rxLengthHigh b s)
    | .payload => .next (rxPayload b s)
    | .ckA => .next (rxFirstCheck b s)
    | .ckB => rxComplete b s
  else .refused .rxByteNotEnabled

/-- `RxByte(b)` of this hardware (R150, decision D5). -/
def receive (b : Byte) (s : State) : Host.Outcome State Fault Refusal := receiveWith Config.syncOverlap b s

/-- RX.SYNC1: the byte 0xB5 as the parser takes it at its position (R151, R152; log entry 13). -/
def execRxSync1 (s : State) : Host.Outcome State Fault Refusal := receive Config.sync1 s

/-- RX.SYNC2: the byte 0x62 as the parser takes it at its position (R153; log entry 13). -/
def execRxSync2 (s : State) : Host.Outcome State Fault Refusal := receive Config.sync2 s

/-- `RxFail` (R233): enabled only in Sent; the stream reports closed, end of file or a read error. -/
def rxFailStep (s : State) : Host.Outcome State Fault Refusal :=
  if s.xstate = .sent then .next (raise .eXport s) else .refused .rxFailNotEnabled

end Sys2Proof.Machine
end

