-- ==== Sys2Proof/Machine/Transmit.lean ====
section
/-! DEFINITION. The transmit rows: the frames TXASM sends (R92, R131 to R135, R211). Such a frame goes out inside a `Cmd`
step, so its row is enabled where `Cmd` is (log entry 7). -/

namespace Sys2Proof.Machine

/-- A transmit row: steps 3 to 5 of R210 for one frame, and nothing after. -/
def transmitStep (cls id : Byte) (payload : List Byte) (s : State) : Host.Outcome State Fault Refusal :=
  if cmdReady s then .next (sendFrame cls id payload (fun t => t) s) else .refused .cmdNotEnabled

/-- UBX.TX.CFG-NAV5.POLL: the frame B5 62 06 24 00 00 2A 84 (R133, R214). -/
def execTxNav5Poll (s : State) : Host.Outcome State Fault Refusal :=
  transmitStep Config.clsCfg Config.idNav5 nav5PollPayload s

/-- UBX.TX.CFG-NAV5.SET (R134, R215). -/
def execTxNav5Set (model : Byte) (s : State) : Host.Outcome State Fault Refusal :=
  transmitStep Config.clsCfg Config.idNav5 (nav5SetPayload model) s

/-- UBX.TX.CFG-RST (R135, R216, R217). -/
def execTxCfgRst (resetType : Byte) (retainMask : Half) (s : State) : Host.Outcome State Fault Refusal :=
  transmitStep Config.clsCfg Config.idRst (rstPayload resetType retainMask) s

/-- UBX.TX.RAW (R131, R218). -/
def execTxRaw (cls id : Byte) (payload : List Byte) (s : State) : Host.Outcome State Fault Refusal :=
  transmitStep cls id payload s

end Sys2Proof.Machine
end

