-- ==== Sys2Proof/Machine/Dispatch.lean ====
section
/-! DEFINITION. One arm per instruction: the table of meanings. -/

namespace Sys2Proof.Machine

def exec (i : Instr) (s : State) : Host.Outcome State Fault Refusal :=
  match i with
  -- frames TXASM sends
  | .txNav5Poll => Sys2Proof.Machine.execTxNav5Poll s
  | .txNav5Set model => Sys2Proof.Machine.execTxNav5Set model s
  | .txCfgRst resetType retainMask => Sys2Proof.Machine.execTxCfgRst resetType retainMask s
  | .txRaw cls id payload => Sys2Proof.Machine.execTxRaw cls id payload s
  -- completed received frames
  | .rxAckAck len => Sys2Proof.Machine.execRxAckAck len s
  | .rxAckNak len => Sys2Proof.Machine.execRxAckNak len s
  | .rxNav5Resp len => Sys2Proof.Machine.execRxNav5Resp len s
  | .rxOther cls id len => Sys2Proof.Machine.execRxOther cls id len s
  -- the host's command words
  | .poll => Sys2Proof.Machine.execPoll s
  | .set model => Sys2Proof.Machine.execSet model s
  | .rstf resetType retainMask => Sys2Proof.Machine.execRstf resetType retainMask s
  | .rstc resetType retainMask => Sys2Proof.Machine.execRstc resetType retainMask s
  | .raw cls id payload => Sys2Proof.Machine.execRaw cls id payload s
  | .cwIllegal cw => Sys2Proof.Machine.execCwIllegal cw s
  -- the sync detector
  | .rxSync1 => Sys2Proof.Machine.execRxSync1 s
  | .rxSync2 => Sys2Proof.Machine.execRxSync2 s
  -- the checksum generator
  | .ckClr => Sys2Proof.Machine.execCkClr s
  | .ckAbs b => Sys2Proof.Machine.execCkAbs b s

end Sys2Proof.Machine
end

