-- ==== Sys2Proof/Machine/Registers.lean ====
section
/-! DEFINITION. The host's register interface (R32, R40 to R47, R221): numbered 32-bit registers. A read is no event and
changes no state, so it is a function of the state and not a step. -/

namespace Sys2Proof.Machine

/-- MODEL (R26, R45): valid only in Responded with `model_valid = 1`; a read of it otherwise is the program's error
(U3). -/
def readModel (s : State) : Host.Outcome Word Fault Refusal :=
  match s.xstate, s.model with
  | .responded, some b => .next (0#24 ++ b)
  | _, _ => .fault .modelNotValid

/-- DLCNT (R47): meaningful only in Sent with `dl_en = 1`, otherwise any value (U5, log entry 6). -/
def dlcntWord (s : State) : Word :=
  if s.xstate = .sent ∧ s.dlEn = true then s.dlCnt else Config.freeDlcnt s.freeCtr s.dlCnt

/-- A host read of register `n` (R32); reserved numbers read 0. -/
def readReg (n : Nat) (s : State) : Host.Outcome Word Fault Refusal :=
  match n with
  | 0 => .next (ctrlWord s)
  | 1 => .next s.tmoAck
  | 2 => .next s.tmoPoll
  | 3 => .next (statusWord s)
  | 4 => .next (resultWord s)
  | 5 => readModel s
  | 6 => .next (errWord s)
  | 7 => .next (dlcntWord s)
  | _ => .next 0#32

/-- The register writes of `CfgWr(n, v)` (R221): CTRL bits 0 and 1, TMO_ACK, TMO_POLL; a write to a read-only or reserved
register has no effect. -/
def writeReg (n : Nat) (v : Word) (s : State) : State :=
  match n with
  | 0 => { s with verifyCk := v.getLsbD 0, tmoPollEn := v.getLsbD 1 }
  | 1 => { s with tmoAck := v }
  | 2 => { s with tmoPoll := v }
  | _ => s

/-- `CfgWr(n, v)` (R221): enabled everywhere but in Sent. -/
def cfgWrStep (n : Nat) (v : Word) (s : State) : Host.Outcome State Fault Refusal :=
  if s.xstate = .sent then .refused .cfgWrNotEnabled else .next (writeReg n v s)

end Sys2Proof.Machine
end

