-- ==== Sys2Proof/Machine/Events.lean ====
section
/-! DEFINITION. The input events (R8): when each is enabled, what consuming it does, and what the machine fetches from
it. -/

namespace Sys2Proof.Machine

/-- When an event is enabled (R8). -/
def enabled : Event → State → Bool
  | .reset, _ => true
  | .cmd _ _ _ _, s => cmdReady s
  | .cfgWr _ _, s => s.xstate != .sent
  | .rxByte _, s => s.xstate == .sent
  | .rxFail, s => s.xstate == .sent
  | .tick, _ => true

/-- Consuming one event in one atomic step (R8). A command runs the instruction its word decodes to, with the event's
draws; a stream byte that is a sync byte runs its row, any other goes to the parser directly. -/
def consume (e : Event) (s : State) : Host.Outcome State Fault Refusal :=
  match e with
  | .reset => .next (blockReset Config.tickHz s)
  | .cmd cw payload txok k => exec (decodeCommand cw payload) { s with draw := ⟨txok, k⟩ }
  | .cfgWr n v => cfgWrStep n v s
  | .rxByte b =>
    match decode (.streamByte b) with
    | .ok i => exec i s
    | .error _ => receive b s
  | .rxFail => rxFailStep s
  | .tick => .next (tick s)

/-- One step: the next event is taken from the queue and consumed. With no event presented the block does nothing
(R248, R260; log entry 1). -/
def stepEvent (s : State) : Host.Outcome State Fault Refusal :=
  match s.inputs with
  | [] => .next s
  | e :: rest => consume e { s with inputs := rest }

/-- What the next step presents to the decoder: a command word; a stream byte in the sync positions; the header of a frame
whose last byte is next and that verification does not discard (R77, R150, R160, R161). -/
def fetched (s : State) : Option Presented :=
  match s.inputs with
  | .cmd cw payload _ _ :: _ => if cmdReady s then some (.command cw payload) else none
  | .rxByte b :: _ =>
    if s.xstate = .sent then
      match s.pstate with
      | .sync1 => some (.streamByte b)
      | .sync2 => some (.streamByte b)
      | .cls => none
      | .ident => none
      | .len0 => none
      | .len1 => none
      | .payload => none
      | .ckA => none
      | .ckB => if s.verifyCk && !checkOk b s then none else some (.receive (headerWord s.rxCls s.rxId s.rxLen))
    else none
  | _ => none

/-! Placing a table word where the next step runs it (log entry 9). -/

/-- A command presented next, in a state where it is enabled. -/
def presentCommand (cw : Word) (payload : List Byte) (s : State) : State :=
  { s with inputs := .cmd cw payload true 0 :: s.inputs, xstate := if cmdReady s then s.xstate else .idle }

/-- A stream byte presented next, to a parser at the given position. -/
def presentByte (p : PState) (b : Byte) (s : State) : State :=
  { s with inputs := .rxByte b :: s.inputs, xstate := .sent, pstate := p }

/-- A received frame with the given header, complete but for its last byte, which is correct and presented next. -/
def presentReceived (cls id : Byte) (len : Half) (s : State) : State :=
  presentByte .ckB s.rxCkB { s with rxCls := cls, rxId := id, rxLen := len, rxCkaRecv := s.rxCkA }

/-- The command that sends the frame with the given header, and does no more: RAW, with the payload the row's builder
gives for operand bytes of zeros (R134, R135, R218: RSTF is such a special case of RAW). -/
def presentTransmit (h : Header) (s : State) : State :=
  let payload :=
    if rowApplies 0xFFFFFFFFFFFF#48 0xB56206242400#48 h then nav5SetPayload 0#8
    else if rowApplies 0xFFFFFFFFFFFF#48 0xB56206040400#48 h then rstPayload 0#8 0#16
    else List.replicate (headerLen h).toNat 0#8
  if rowApplies 0xFFFF00000000#48 0xB56200000000#48 h then
    presentCommand (commandWord 5#4 (headerByte h 2) (headerByte h 3 ++ 0#8)) payload s
  else s

/-- A word of the opcode table placed where the next step fetches. -/
def placeTableWord (s : State) (nbits w : Nat) : State :=
  match nbits with
  | 0 => presentByte .sync2 Config.sync2 s
  | 8 =>
    let b := BitVec.ofNat 8 w
    presentByte (if b = Config.sync2 then .sync2 else .sync1) b s
  | 32 => presentCommand (BitVec.ofNat 32 w) [] s
  | 48 =>
    let h := BitVec.ofNat 48 w
    match tableDirection h with
    | .transmit => presentTransmit h s
    | .receive => presentReceived (headerByte h 2) (headerByte h 3) (headerLen h) s
  | _ => s

end Sys2Proof.Machine
end

