-- ==== Sys2Proof/Machine/Step.lean ====
section
/-! DEFINITION. The step of the machine, and the state in which its next step runs a given word of the opcode table. -/

namespace Sys2Proof.Machine

/-- One step: the consumption of the next input event (R8). -/
def step (s : State) : Host.Outcome State Fault Refusal := stepEvent s

/-- `s` with a word of the opcode table where `step` takes its next instruction from (log entry 9). -/
def State.withFetchWord (s : State) (nbits w : Nat) : State := placeTableWord s nbits w

end Sys2Proof.Machine
end

