-- ==== Sys2Proof/Machine/Notation.lean ====
section
/-! DEFINITION. The line-oriented notation of R101 and its pseudo-instructions (R102): what each line presents to the
machine. It has no meaning of its own beyond the events it abbreviates (decision D33). -/

namespace Sys2Proof.Machine

/-- The register names of R32 as `cfg` writes them. -/
def regCtrl : Nat := 0
/-- TMO_ACK (R32). -/
def regTmoAck : Nat := 1
/-- TMO_POLL (R32). -/
def regTmoPoll : Nat := 2
/-- STATUS (R32). -/
def regStatus : Nat := 3
/-- RESULT (R32). -/
def regResult : Nat := 4
/-- MODEL (R32). -/
def regModel : Nat := 5
/-- ERR (R32). -/
def regErr : Nat := 6
/-- DLCNT (R32). -/
def regDlcnt : Nat := 7

/-- A command line of R101. -/
inductive CommandLine where
  | poll
  | set (model : Byte)
  | rstf (resetType : Byte) (retainMask : Half)
  | rstc (resetType : Byte) (retainMask : Half)
  | raw (cls id : Byte) (payload : List Byte)
  | cmdw (word : Word)
  deriving DecidableEq, Repr

/-- A line of R101, or a pseudo-instruction of R102. -/
inductive Line where
  | reset
  | command (line : CommandLine)
  /-- A command line followed by `!txfail k`. -/
  | txfail (line : CommandLine) (k : Nat)
  | cfg (reg : Nat) (value : Word)
  | rx (bytes : List Byte)
  | rxfail
  | tick (count : Nat)
  | rxFrame (cls id : Byte) (payload : List Byte)
  | rxAck (cls id : Byte)
  | rxNak (cls id : Byte)
  deriving DecidableEq, Repr

/-- The `Cmd` event of a command line, with the given draws (R101). -/
def commandEvent (line : CommandLine) (txok : Bool) (k : Nat) : Event :=
  match line with
  | .poll => .cmd (commandWord 1#4 0#8 0#16) [] txok k
  | .set model => .cmd (commandWord 2#4 model 0#16) [] txok k
  | .rstf t mask => .cmd (commandWord 3#4 t mask) [] txok k
  | .rstc t mask => .cmd (commandWord 4#4 t mask) [] txok k
  | .raw cls id payload => .cmd (commandWord 5#4 cls (id ++ 0#8)) payload txok k
  | .cmdw word => .cmd word [] txok k

/-- The bytes of a correctly check-summed frame, one `RxByte` each; a payload no frame can carry stands for nothing
(R102). -/
def frameEvents (cls id : Byte) (payload : List Byte) : List Event :=
  ((assembleFrame cls id payload).getD []).map .rxByte

/-- The events of a line, in order (R101, R102). -/
def lineEvents : Line → List Event
  | .reset => [.reset]
  | .command line => [commandEvent line true 0]
  | .txfail line k => [commandEvent line false k]
  | .cfg reg value => [.cfgWr reg value]
  | .rx bytes => bytes.map .rxByte
  | .rxfail => [.rxFail]
  | .tick count => List.replicate count .tick
  | .rxFrame cls id payload => frameEvents cls id payload
  | .rxAck cls id => frameEvents Config.clsAck Config.idAck [cls, id]
  | .rxNak cls id => frameEvents Config.clsAck Config.idNak [cls, id]

end Sys2Proof.Machine
end

