-- ==== Sys2Proof/Safety.lean ====
section
/-! DEFINITION. The terms claims are made in: running several steps, the invariant of the reachable states, the exchange
state the transition table gives, and which parts of a state the spec leaves unspecified after reset. -/

namespace Sys2Proof.Machine

/-- `n` steps, stopping at the first fault or refusal. -/
def run : Nat → State → Host.Outcome State Fault Refusal
  | 0, s => .next s
  | n + 1, s =>
    match step s with
    | .next t => run n t
    | .fault r => .fault r
    | .refused r => .refused r

/-! The invariant. -/

/-- A model byte is held only by an exchange that ended Responded (R26, R45). -/
abbrev ModelOnlyResponded (s : State) : Prop := s.model.isSome = true → s.xstate = .responded

/-- Failed and `E_XPORT` come and go together (R27, R234, R239). -/
abbrev FailedIsTransport (s : State) : Prop := s.xstate = .failed ↔ s.err = .eXport

/-- `E_LEN` and `E_OP` stand only in Idle (R234). -/
abbrev CommandErrorInIdle (s : State) : Prop := s.err = .eLen ∨ s.err = .eOp → s.xstate = .idle

/-- In P_PAYLOAD of an exchange the index is below the length, so it never wraps (R29). -/
abbrev PayloadIndexBelow (s : State) : Prop :=
  s.xstate = .sent → s.pstate = .payload → s.rxIdx.toNat < s.rxLen.toNat

/-- The pending request of POLL (R183, R214). -/
abbrev PollRequest (s : State) : Prop :=
  s.wantAck = false ∧ s.wantResp = true ∧ s.reqCls = Config.clsCfg ∧ s.reqId = Config.idNav5 ∧
    s.expCls = Config.clsCfg ∧ s.expId = Config.idNav5

/-- The pending request of SET or RSTC, always with a deadline (R183, R192, R215, R217). -/
abbrev AckRequest (s : State) : Prop :=
  s.wantAck = true ∧ s.wantResp = false ∧ s.reqCls = Config.clsCfg ∧
    (s.reqId = Config.idNav5 ∨ s.reqId = Config.idRst) ∧ s.dlEn = true

/-- An open exchange has one of the two kinds of pending request (R183). -/
abbrev PendingLegal (s : State) : Prop := s.xstate = .sent → PollRequest s ∨ AckRequest s

/-- An exchange ends in a state its command waits for (R183, R193). -/
abbrev ResultFitsRequest (s : State) : Prop :=
  (s.xstate = .acked ∨ s.xstate = .naked → s.wantAck = true) ∧ (s.xstate = .responded → s.wantResp = true) ∧
    (s.xstate = .timedOut → s.dlEn = true)

/-- The invariant of the reachable states. -/
abbrev StateInv (s : State) : Prop :=
  ModelOnlyResponded s ∧ FailedIsTransport s ∧ CommandErrorInIdle s ∧ PayloadIndexBelow s ∧ PendingLegal s ∧
    ResultFitsRequest s

/-! The transition table of R180, in the table's own terms. -/

/-- The exchange state after an accepted command word (R180, R220): the fields of R96 say which command it is. -/
def afterCommand (cw : Word) (payload : List Byte) (txok : Bool) : XState :=
  if legalCommandWord cw = false then .idle
  else if cw.extractLsb' 28 4 = 5#4 ∧ payload.length > Config.maxPayload then .idle
  else if txok = false then .failed
  else if cw.extractLsb' 28 4 = 3#4 ∨ cw.extractLsb' 28 4 = 5#4 then .idle
  else .sent

/-- The exchange state after a frame with the latched header and payload bytes completes (R180, R184 to R187). -/
def afterFrame (s : State) : XState :=
  if s.wantAck = true ∧ s.rxCls = 0x05#8 ∧ s.rxId = 0x01#8 ∧ 2 ≤ s.rxLen.toNat ∧ s.rxP0 = s.reqCls ∧ s.rxP1 = s.reqId then
    .acked
  else if s.wantAck = true ∧ s.rxCls = 0x05#8 ∧ s.rxId = 0x00#8 ∧ 2 ≤ s.rxLen.toNat ∧ s.rxP0 = s.reqCls ∧
      s.rxP1 = s.reqId then .naked
  else if s.wantResp = true ∧ s.rxCls = s.expCls ∧ s.rxId = s.expId ∧ 2 ≤ s.rxLen.toNat then .responded
  else .sent

/-- The exchange state after an enabled event (R180). -/
def nextXState (e : Event) (s : State) : XState :=
  match e with
  | .reset => .idle
  | .cmd cw payload txok _ => afterCommand cw payload txok
  | .cfgWr _ _ => s.xstate
  | .rxByte b =>
    if s.pstate = .ckB ∧ ¬(s.verifyCk = true ∧ ¬(s.rxCkaRecv = s.rxCkA ∧ b = s.rxCkB)) then afterFrame s else .sent
  | .rxFail => .failed
  | .tick => if s.xstate = .sent ∧ s.dlEn = true ∧ s.dlCnt = 0#32 then .timedOut else s.xstate

/-! What the unspecified registers may not show (U1). -/

/-- `t` is `s` but for the registers R51 leaves unspecified after reset, TMO_POLL apart (U1, U4). -/
def SameButUnspecified (s t : State) : Prop :=
  t = { s with
    rxIdx := t.rxIdx, rxCls := t.rxCls, rxId := t.rxId, rxLen := t.rxLen, rxP0 := t.rxP0, rxP1 := t.rxP1,
    rxP2 := t.rxP2, rxCkA := t.rxCkA, rxCkB := t.rxCkB, rxCkaRecv := t.rxCkaRecv, reqCls := t.reqCls,
    reqId := t.reqId, expCls := t.expCls, expId := t.expId, dlCnt := t.dlCnt }

/-- DLCNT has a meaning: the exchange is open and has a deadline (R47). -/
abbrev DlcntMeaningful (s : State) : Prop := s.xstate = .sent ∧ s.dlEn = true

/-- The two outcomes look the same from outside: same kind of outcome, and in next states the same `tx`, `xstate`, `err`,
`result` and model (U1), and the same host reads of every register but a DLCNT that has no meaning (R32, U5). -/
def SameToHost : Host.Outcome State Fault Refusal → Host.Outcome State Fault Refusal → Prop
  | .next s, .next t =>
    s.tx = t.tx ∧ s.xstate = t.xstate ∧ s.err = t.err ∧ result s = result t ∧ s.model = t.model ∧
      ∀ n, n ≠ 7 ∨ DlcntMeaningful s → readReg n s = readReg n t
  | .fault r, .fault q => r = q
  | .refused r, .refused q => r = q
  | _, _ => False

/-! Received frames, as the claims speak of them. -/

/-- A completed frame that R184, R185 and R186 all turn away, so that R187 discards it. -/
def Unmatched (d : FrameFields) (s : State) : Prop :=
  ¬(s.wantAck = true ∧ d.cls = 0x05#8 ∧ (d.id = 0x01#8 ∨ d.id = 0x00#8) ∧ 2 ≤ d.length ∧
      d.payload.getD 0 0#8 = s.reqCls ∧ d.payload.getD 1 0#8 = s.reqId) ∧
    ¬(s.wantResp = true ∧ d.cls = s.expCls ∧ d.id = s.expId ∧ 2 ≤ d.length)

/-- No sync sequence stands in the bytes, and none can begin with the last of them (R82, R95). -/
def NoSync (bytes : List Byte) : Prop :=
  (∀ i, ¬(bytes[i]? = some 0xB5#8 ∧ bytes[i + 1]? = some 0x62#8)) ∧ bytes.getLast? ≠ some 0xB5#8

/-- Bytes the scan passes over and is then back at P_SYNC1: bytes without a sync sequence (R95, R152), or a whole frame
that nothing waits for (R187) or that verification discards (R161). -/
def Noise (s : State) (bytes : List Byte) : Prop :=
  NoSync bytes ∨
    ∃ d, decodeFrame bytes = some d ∧ (Unmatched d s ∨ s.verifyCk = true ∧ wellFormedFrame bytes = false)

/-- `u` is `s` but for the parser's own registers and the events taken (R151 to R161). -/
def SameButParser (s u : State) : Prop :=
  u = { s with
    inputs := u.inputs, pstate := u.pstate, rxIdx := u.rxIdx, rxCls := u.rxCls, rxId := u.rxId, rxLen := u.rxLen,
    rxP0 := u.rxP0, rxP1 := u.rxP1, rxP2 := u.rxP2, rxCkA := u.rxCkA, rxCkB := u.rxCkB, rxCkaRecv := u.rxCkaRecv }

end Sys2Proof.Machine
end

