-- ==== Sys2Proof/Certificates/Slice0/Obligations.lean ====
section
/-! DEFINITION. The statements of this model, for the provers. -/

open Sys2Proof
open Sys2Proof.Machine

/-! ## Reset -/

/-- R51: the reset state, as far as the spec gives it values. -/
def Obligations.ResetStateHoldsTheGivenValues : Prop :=
  State.reset.xstate = .idle ∧ State.reset.pstate = .sync1 ∧ State.reset.wantAck = false ∧
    State.reset.wantResp = false ∧ State.reset.dlEn = false ∧ modelValid State.reset = false ∧
    State.reset.err = .none ∧ State.reset.verifyCk = false ∧ State.reset.tmoPollEn = false ∧
    State.reset.tmoAck.toNat = 2 * Config.tickHz ∧ State.reset.tx = [] ∧ statusWord State.reset = 0#32 ∧
    ctrlWord State.reset = 0#32

/-- R260: `Reset` is enabled in every state; the registers it gives a value hold it, whatever came before; the events
still waiting are not touched. -/
def Obligations.ResetEventGivesTheResetValues : Prop :=
  ∀ (s : State) (rest : List Event), s.inputs = .reset :: rest →
    ∃ t, step s = .next t ∧ t.xstate = .idle ∧ t.pstate = .sync1 ∧ t.wantAck = false ∧ t.wantResp = false ∧
      t.dlEn = false ∧ modelValid t = false ∧ t.err = .none ∧ t.verifyCk = false ∧ t.tmoPollEn = false ∧
      t.tmoAck.toNat = 2 * Config.tickHz ∧ t.tx = [] ∧ t.inputs = rest

/-! ## The invariant -/

/-- The reset state meets the invariant. -/
def Obligations.ResetStateMeetsInvariant : Prop := StateInv State.reset

/-- Every step keeps the invariant: a model byte only in Responded; Failed exactly with E_XPORT; the command errors only
in Idle; the payload index below the length; the pending request of an open exchange one of the two kinds; an exchange
ended as its command waits for (this last part reads the pending request after the exchange, whose registers the model
keeps: log entry 16). -/
def Obligations.EveryStepKeepsInvariant : Prop :=
  ∀ s t : State, StateInv s → step s = .next t → StateInv t

/-! ## The machine as a whole -/

/-- R180, R8, R212: an event has a step exactly in the states R8 lists for it, written out here; the step leads to the
exchange state of the transition table. In particular no step faults. That the event without a step is a refusal is log
entry 12 (U15). -/
def Obligations.TransitionTableIsComplete : Prop :=
  ∀ (s : State) (e : Event) (rest : List Event), s.inputs = e :: rest →
    let hasStep : Prop :=
      e = .reset ∨ e = .tick ∨
      ((∃ cw p ok k, e = .cmd cw p ok k) ∧
        (s.xstate = .idle ∨ s.xstate = .acked ∨ s.xstate = .naked ∨ s.xstate = .responded ∨ s.xstate = .timedOut)) ∨
      ((∃ n v, e = .cfgWr n v) ∧ s.xstate ≠ .sent) ∨
      (((∃ b, e = .rxByte b) ∨ e = .rxFail) ∧ s.xstate = .sent)
    (hasStep → ∃ t, step s = .next t ∧ t.xstate = nextXState e s ∧ t.inputs = rest) ∧
      (¬hasStep → ∃ r, step s = .refused r)

/-- A step runs the instruction the decoder reads from what is presented: for a command word, with the event's draws; for
a sync byte; and for the header of a frame whose last byte arrives. Every byte of the receive stream, sync byte or not, is
taken by the parser's dispatch with SYNC_OVERLAP true (R150, R7). -/
def Obligations.StepRunsTheDecodedInstruction : Prop :=
  (∀ (s : State) (cw : Word) (p : List Byte) (ok : Bool) (k : Nat) (rest : List Event) (i : Instr),
    s.inputs = .cmd cw p ok k :: rest → decode (.command cw p) = .ok i →
      step s = exec i { s with inputs := rest, draw := ⟨ok, k⟩ }) ∧
  (∀ (s : State) (b : Byte) (rest : List Event) (i : Instr),
    s.inputs = .rxByte b :: rest → decode (.streamByte b) = .ok i → step s = exec i { s with inputs := rest }) ∧
  (∀ (s : State) (b : Byte) (rest : List Event) (h : Header) (i : Instr),
    s.inputs = .rxByte b :: rest → s.pstate = .ckB → fetched s = some (.receive h) → decode (.receive h) = .ok i →
      step s = exec i { s with inputs := rest, pstate := .sync1 }) ∧
  (∀ (s : State) (b : Byte) (rest : List Event),
    s.inputs = .rxByte b :: rest → step s = receiveWith true b { s with inputs := rest })

/-- The sync rows take their byte as the parser does at every position, and complete at every one (R150; log entry 13). -/
def Obligations.SyncRowsTakeTheirByte : Prop :=
  ∀ s : State, (exec .rxSync1 s = receiveWith true 0xB5#8 s) ∧ (exec .rxSync2 s = receiveWith true 0x62#8 s) ∧
    (s.xstate = .sent → (∃ t, exec .rxSync1 s = .next t) ∧ ∃ t, exec .rxSync2 s = .next t)

/-- R71, R73: a step without `Reset` only appends to `tx`; it appends nothing in Sent, nor for any event but `Cmd`. -/
def Obligations.TransmitStreamOnlyGrows : Prop :=
  ∀ (s t : State) (e : Event) (rest : List Event), s.inputs = e :: rest → e ≠ .reset → step s = .next t →
    ∃ bytes, t.tx = s.tx ++ bytes ∧ (s.xstate = .sent → bytes = []) ∧
      ((∀ cw p ok k, e ≠ .cmd cw p ok k) → bytes = [])

/-- R40: no step but `Reset` changes the configuration while an exchange runs. -/
def Obligations.ConfigurationConstantInExchange : Prop :=
  ∀ (s t : State) (e : Event) (rest : List Event), s.inputs = e :: rest → e ≠ .reset → s.xstate = .sent →
    step s = .next t →
    t.verifyCk = s.verifyCk ∧ t.tmoPollEn = s.tmoPollEn ∧ t.tmoAck = s.tmoAck ∧ t.tmoPoll = s.tmoPoll

/-- R239: nothing but `Reset` leaves Failed: along any run without `Reset` the state stays Failed with the same error and
the same transmit stream. -/
def Obligations.FailedIsLeftOnlyByReset : Prop :=
  ∀ (n : Nat) (s t : State), s.xstate = .failed → Event.reset ∉ s.inputs.take n → run n s = .next t →
    t.xstate = .failed ∧ t.err = s.err ∧ t.tx = s.tx

/-- U1: two states outside an exchange that differ only in the registers R51 leaves unspecified, TMO_POLL apart (U4), give
after any number of steps the same `tx`, exchange state, error, result and model, and the same host reads, but for DLCNT
where it has no meaning (U5). -/
def Obligations.UnspecifiedRegistersStayInvisible : Prop :=
  ∀ (n : Nat) (s t : State), s.xstate ≠ .sent → SameButUnspecified s t → SameToHost (run n s) (run n t)

/-! ## The host commands -/

/-- R214: POLL sends its eight bytes and opens the exchange that waits for the data response. -/
def Obligations.PollSendsAndWaits : Prop :=
  ∀ s : State, s.xstate ≠ .sent → s.xstate ≠ .failed → s.draw.txok = true →
    exec .poll s = .next { s with
      err := .none, model := none
      tx := s.tx ++ [0xB5#8, 0x62#8, 0x06#8, 0x24#8, 0x00#8, 0x00#8, 0x2A#8, 0x84#8]
      reqCls := 0x06#8, reqId := 0x24#8, wantAck := false, wantResp := true, expCls := 0x06#8, expId := 0x24#8
      dlEn := s.tmoPollEn, dlCnt := s.tmoPoll, pstate := .sync1, xstate := .sent }

/-- R215: SET sends the 44 bytes of the set frame for its model byte, whatever the byte, and opens the exchange that
waits for ACK or NAK; only `exp_cls`, `exp_id` hold values the spec does not give. -/
def Obligations.SetSendsAndWaits : Prop :=
  ∀ (s : State) (m : Byte), s.xstate ≠ .sent → s.xstate ≠ .failed → s.draw.txok = true →
    ∃ (ec ei : Byte) (n : Nat), exec (.set m) s = .next { s with
      err := .none, model := none
      tx := s.tx ++ ([0xB5#8, 0x62#8, 0x06#8, 0x24#8, 0x24#8, 0x00#8, 0x01#8, 0x00#8, m, 0x02#8] ++
        List.replicate 32 0x00#8 ++ [0x51#8 + m, 0x2A#8 + 34#8 * m])
      reqCls := 0x06#8, reqId := 0x24#8, wantAck := true, wantResp := false, expCls := ec, expId := ei
      dlEn := true, dlCnt := s.tmoAck, pstate := .sync1, xstate := .sent, freeCtr := n }

/-- R216: RSTF sends the reset frame, the mask little-endian, and is back in Idle with no exchange opened. -/
def Obligations.RstfSendsAndIsIdle : Prop :=
  ∀ (s : State) (t : Byte) (mask : Half), s.xstate ≠ .sent → s.xstate ≠ .failed → s.draw.txok = true →
    exec (.rstf t mask) s = .next { s with
      err := .none, model := none, xstate := .idle
      tx := s.tx ++ [0xB5#8, 0x62#8, 0x06#8, 0x04#8, 0x04#8, 0x00#8, mask.setWidth 8, (mask >>> 8).setWidth 8, t, 0x00#8,
        0x0E#8 + mask.setWidth 8 + (mask >>> 8).setWidth 8 + t,
        0x64#8 + 4#8 * mask.setWidth 8 + 3#8 * (mask >>> 8).setWidth 8 + 2#8 * t] }

/-- R217: RSTC sends the same frame and opens the exchange that waits for ACK or NAK of (0x06, 0x04). -/
def Obligations.RstcSendsAndWaits : Prop :=
  ∀ (s : State) (t : Byte) (mask : Half), s.xstate ≠ .sent → s.xstate ≠ .failed → s.draw.txok = true →
    ∃ (ec ei : Byte) (n : Nat), exec (.rstc t mask) s = .next { s with
      err := .none, model := none
      tx := s.tx ++ [0xB5#8, 0x62#8, 0x06#8, 0x04#8, 0x04#8, 0x00#8, mask.setWidth 8, (mask >>> 8).setWidth 8, t, 0x00#8,
        0x0E#8 + mask.setWidth 8 + (mask >>> 8).setWidth 8 + t,
        0x64#8 + 4#8 * mask.setWidth 8 + 3#8 * (mask >>> 8).setWidth 8 + 2#8 * t]
      reqCls := 0x06#8, reqId := 0x04#8, wantAck := true, wantResp := false, expCls := ec, expId := ei
      dlEn := true, dlCnt := s.tmoAck, pstate := .sync1, xstate := .sent, freeCtr := n }

/-- R218: RAW sends the frame of any class, id and payload of at most 65535 bytes and is back in Idle. -/
def Obligations.RawSendsAndIsIdle : Prop :=
  ∀ (s : State) (c i : Byte) (p : List Byte), s.xstate ≠ .sent → s.xstate ≠ .failed → s.draw.txok = true → p.length ≤ 65535 →
    exec (.raw c i p) s = .next { s with
      err := .none, model := none, xstate := .idle
      tx := s.tx ++ ([0xB5#8, 0x62#8, c, i, BitVec.ofNat 8 p.length, BitVec.ofNat 8 (p.length / 256)] ++ p ++
        [(computeChecksum ([c, i, BitVec.ofNat 8 p.length, BitVec.ofNat 8 (p.length / 256)] ++ p)).1,
          (computeChecksum ([c, i, BitVec.ofNat 8 p.length, BitVec.ofNat 8 (p.length / 256)] ++ p)).2]) }

/-- R230: a payload over 65535 bytes raises E_LEN before anything is written, whatever the environment's draws. -/
def Obligations.RawTooLongRaisesLengthError : Prop :=
  ∀ (s : State) (c i : Byte) (p : List Byte), s.xstate ≠ .sent → s.xstate ≠ .failed → 65535 < p.length →
    exec (.raw c i p) s = .next { s with err := .eLen, model := none, xstate := .idle }

/-- R219, R231: an illegal command word raises E_OP and writes nothing, whatever the environment's draws. -/
def Obligations.IllegalWordRaisesOperationError : Prop :=
  ∀ (s : State) (cw : Word), s.xstate ≠ .sent → s.xstate ≠ .failed →
    exec (.cwIllegal cw) s = .next { s with err := .eOp, model := none, xstate := .idle }

/-- R232, R63: when the write fails, a command ends in Failed with E_XPORT, a proper part of its frame from the start has
gone out, as many bytes as the draw says, and no exchange is opened. -/
def Obligations.FailedWriteEndsInFailed : Prop :=
  ∀ (s : State) (i : Instr) (c d : Byte) (p f : List Byte), s.xstate ≠ .sent → s.xstate ≠ .failed → s.draw.txok = false →
    (i = .poll ∧ c = 0x06#8 ∧ d = 0x24#8 ∧ p = [] ∨
      (∃ m, i = .set m ∧ c = 0x06#8 ∧ d = 0x24#8 ∧ p = [0x01#8, 0x00#8, m, 0x02#8] ++ List.replicate 32 0x00#8) ∨
      (∃ t mask, (i = .rstf t mask ∨ i = .rstc t mask) ∧ c = 0x06#8 ∧ d = 0x04#8 ∧
        p = [mask.setWidth 8, (mask >>> 8).setWidth 8, t, 0x00#8]) ∨
      i = .raw c d p) →
    assembleFrame c d p = some f →
    exec i s = .next { s with
      err := .eXport, model := none, xstate := .failed, tx := s.tx ++ f.take (min s.draw.k (f.length - 1)) } ∧
      (f.take (min s.draw.k (f.length - 1))).length < f.length

/-- R30, R8, R212, R150, R239 (U15): the flag `cmd_ready` is off exactly in Sent and in Failed; in Sent and in Failed no command and no transmit row has a step; outside Sent no receive
row and no sync byte has one. -/
def Obligations.InstructionsRefusedWhenNotEnabled : Prop :=
  ∀ s : State,
    (cmdReady s = true ↔ s.xstate ≠ .sent ∧ s.xstate ≠ .failed) ∧
    (s.xstate = .sent ∨ s.xstate = .failed →
      exec .poll s = .refused .cmdNotEnabled ∧ (∀ m, exec (.set m) s = .refused .cmdNotEnabled) ∧
      (∀ t mask, exec (.rstf t mask) s = .refused .cmdNotEnabled) ∧
      (∀ t mask, exec (.rstc t mask) s = .refused .cmdNotEnabled) ∧
      (∀ c i p, exec (.raw c i p) s = .refused .cmdNotEnabled) ∧
      (∀ cw, exec (.cwIllegal cw) s = .refused .cmdNotEnabled) ∧
      exec .txNav5Poll s = .refused .cmdNotEnabled ∧ (∀ m, exec (.txNav5Set m) s = .refused .cmdNotEnabled) ∧
      (∀ t mask, exec (.txCfgRst t mask) s = .refused .cmdNotEnabled) ∧
      ∀ c i p, exec (.txRaw c i p) s = .refused .cmdNotEnabled) ∧
    (s.xstate ≠ .sent →
      (∀ len, exec (.rxAckAck len) s = .refused .rxByteNotEnabled) ∧
      (∀ len, exec (.rxAckNak len) s = .refused .rxByteNotEnabled) ∧
      (∀ len, exec (.rxNav5Resp len) s = .refused .rxByteNotEnabled) ∧
      (∀ c i len, exec (.rxOther c i len) s = .refused .rxByteNotEnabled) ∧
      exec .rxSync1 s = .refused .rxByteNotEnabled ∧ exec .rxSync2 s = .refused .rxByteNotEnabled)

/-- R98: a command word is illegal exactly when it is one of the reserved words, and a legal word decodes to the
operation its `op` field names, with the operands of its fields. -/
def Obligations.ReservedWordsAreExactlyIllegal : Prop :=
  ∀ (cw : Word) (p : List Byte),
    let op := cw.toNat / 2 ^ 28
    let reserved := cw.toNat / 2 ^ 24 % 16
    let a := cw.toNat / 2 ^ 16 % 256
    let m := cw.toNat % 2 ^ 16
    (decodeCommand cw p = .cwIllegal cw ↔
      op = 0 ∨ 6 ≤ op ∨ reserved ≠ 0 ∨ (op = 1 ∧ (a ≠ 0 ∨ m ≠ 0)) ∨ (op = 2 ∧ m ≠ 0) ∨ (op = 5 ∧ m % 256 ≠ 0)) ∧
    (decodeCommand cw p ≠ .cwIllegal cw →
      (op = 1 ∧ decodeCommand cw p = .poll) ∨ (op = 2 ∧ decodeCommand cw p = .set (BitVec.ofNat 8 a)) ∨
      (op = 3 ∧ decodeCommand cw p = .rstf (BitVec.ofNat 8 a) (BitVec.ofNat 16 m)) ∨
      (op = 4 ∧ decodeCommand cw p = .rstc (BitVec.ofNat 8 a) (BitVec.ofNat 16 m)) ∨
      (op = 5 ∧ decodeCommand cw p = .raw (BitVec.ofNat 8 a) (BitVec.ofNat 8 (m / 256)) p))

/-! ## Frames TXASM sends -/

/-- The transmit rows append their frame and change nothing else (R92, R131 to R135, R211; that they are enabled where
`Cmd` is, is the model's reading, log entry 7). -/
def Obligations.TransmitRowsSendTheirFrame : Prop :=
  ∀ s : State, s.xstate ≠ .sent → s.xstate ≠ .failed → s.draw.txok = true →
    exec .txNav5Poll s = .next { s with
      tx := s.tx ++ [0xB5#8, 0x62#8, 0x06#8, 0x24#8, 0x00#8, 0x00#8, 0x2A#8, 0x84#8] } ∧
    (∀ m, exec (.txNav5Set m) s = .next { s with
      tx := s.tx ++ ([0xB5#8, 0x62#8, 0x06#8, 0x24#8, 0x24#8, 0x00#8, 0x01#8, 0x00#8, m, 0x02#8] ++
        List.replicate 32 0x00#8 ++ [0x51#8 + m, 0x2A#8 + 34#8 * m]) }) ∧
    (∀ t mask, exec (.txCfgRst t mask) s = .next { s with
      tx := s.tx ++ [0xB5#8, 0x62#8, 0x06#8, 0x04#8, 0x04#8, 0x00#8, mask.setWidth 8, (mask >>> 8).setWidth 8, t, 0x00#8,
        0x0E#8 + mask.setWidth 8 + (mask >>> 8).setWidth 8 + t,
        0x64#8 + 4#8 * mask.setWidth 8 + 3#8 * (mask >>> 8).setWidth 8 + 2#8 * t] }) ∧
    (∀ c i p f, assembleFrame c i p = some f → exec (.txRaw c i p) s = .next { s with tx := s.tx ++ f })

/-- The transmit rows when they do not complete: a failed write and, for a payload too long for any frame, E_LEN (R130,
R232; log entry 7). -/
def Obligations.TransmitRowsFail : Prop :=
  ∀ (s : State) (i : Instr) (c d : Byte) (p f : List Byte), s.xstate ≠ .sent → s.xstate ≠ .failed →
    (i = .txNav5Poll ∧ c = 0x06#8 ∧ d = 0x24#8 ∧ p = [] ∨
      (∃ m, i = .txNav5Set m ∧ c = 0x06#8 ∧ d = 0x24#8 ∧ p = [0x01#8, 0x00#8, m, 0x02#8] ++ List.replicate 32 0x00#8) ∨
      (∃ t mask, i = .txCfgRst t mask ∧ c = 0x06#8 ∧ d = 0x04#8 ∧
        p = [mask.setWidth 8, (mask >>> 8).setWidth 8, t, 0x00#8]) ∨
      i = .txRaw c d p) →
    (s.draw.txok = false → assembleFrame c d p = some f →
      exec i s = .next { s with
        err := .eXport, xstate := .failed, tx := s.tx ++ f.take (min s.draw.k (f.length - 1)) }) ∧
    (65535 < p.length → exec i s = .next { s with err := .eLen, xstate := .idle })

/-- R130: `assemble_frame` fails exactly on a payload of more than 65535 bytes. -/
def Obligations.AssembleFailsOnlyOverMaximum : Prop :=
  ∀ (c i : Byte) (p : List Byte), assembleFrame c i p = none ↔ 65535 < p.length

/-- R132: length fidelity, size, and the trailing bytes are the checksum of the middle bytes. -/
def Obligations.AssembledFrameShape : Prop :=
  ∀ (c i : Byte) (p f : List Byte), assembleFrame c i p = some f →
    (f.getD 4 0#8).toNat + 256 * (f.getD 5 0#8).toNat = p.length ∧ f.length = 8 + p.length ∧
    (f.getD (6 + p.length) 0#8, f.getD (7 + p.length) 0#8) = computeChecksum ((f.drop 2).take (4 + p.length))

/-- R137: decoding an assembled frame recovers class, id, length and payload, and the trailing bytes are the checksum of
the middle bytes. -/
def Obligations.DecodingAnAssembledFrameRecoversIt : Prop :=
  ∀ (c i : Byte) (p : List Byte), p.length ≤ 65535 →
    ∃ f, assembleFrame c i p = some f ∧
      decodeFrame f = some {
        cls := c, id := i, length := p.length, payload := p
        ckA := (computeChecksum ([c, i] ++ leBytes (BitVec.ofNat 16 p.length) ++ p)).1
        ckB := (computeChecksum ([c, i] ++ leBytes (BitVec.ofNat 16 p.length) ++ p)).2 }

/-- R138: every assembled frame is well-formed, and changing either trailing byte makes it not so. -/
def Obligations.AssembledFramesAreWellFormed : Prop :=
  ∀ (c i : Byte) (p f : List Byte), assembleFrame c i p = some f →
    wellFormedFrame f = true ∧
    ∀ x y : Byte, (f.take (6 + p.length) ++ [x, y] ≠ f) → wellFormedFrame (f.take (6 + p.length) ++ [x, y]) = false

/-- R139: `set_dynamic_model(6)` produces exactly the 44 bytes of the document's listing. -/
def Obligations.SetSixFrameIsTheListing : Prop :=
  assembleFrame 0x06#8 0x24#8 (nav5SetPayload 6#8) = some [
    0xB5#8, 0x62#8, 0x06#8, 0x24#8, 0x24#8, 0x00#8, 0x01#8, 0x00#8, 0x06#8, 0x02#8,
    0x00#8, 0x00#8, 0x00#8, 0x00#8, 0x00#8, 0x00#8, 0x00#8, 0x00#8, 0x00#8, 0x00#8, 0x00#8, 0x00#8, 0x00#8, 0x00#8, 0x00#8, 0x00#8,
    0x00#8, 0x00#8, 0x00#8, 0x00#8, 0x00#8, 0x00#8, 0x00#8, 0x00#8, 0x00#8, 0x00#8, 0x00#8, 0x00#8, 0x00#8, 0x00#8, 0x00#8, 0x00#8,
    0x57#8, 0xF6#8]

/-! ## The checksum generator -/

/-- R111: CK.CLR clears both accumulators and nothing else. That the bare row acts on the receive accumulators is the
model's choice, log entry 11. -/
def Obligations.CkClrClearsBoth : Prop :=
  ∀ s : State, exec .ckClr s = .next { s with rxCkA := 0#8, rxCkB := 0#8 }

/-- R112: CK.ABS adds the byte to `ck_a` modulo 256, then the new `ck_a` to `ck_b`, and changes nothing else.
That the bare row acts on the receive accumulators is the model's choice, log entry 11; the arithmetic is R112's. -/
def Obligations.CkAbsAddsModulo256 : Prop :=
  ∀ (s : State) (b : Byte), exec (.ckAbs b) s = .next { s with
    rxCkA := BitVec.ofNat 8 ((s.rxCkA.toNat + b.toNat) % 256)
    rxCkB := BitVec.ofNat 8 ((s.rxCkB.toNat + (s.rxCkA.toNat + b.toNat) % 256) % 256) }

/-- R113: the closed form of the checksum: the sum of the bytes, and the sum weighted by the distance from the end. -/
def Obligations.ChecksumClosedForm : Prop :=
  ∀ s : List Byte,
    (computeChecksum s).1.toNat = (s.map BitVec.toNat).sum % 256 ∧
    (computeChecksum s).2.toNat =
      ((List.range s.length).map fun i => (s.length - i) * (s.getD i 0#8).toNat).sum % 256

/-- R114: the masked and the unbounded formulation agree on every byte sequence. -/
def Obligations.ChecksumFormulationsAgree : Prop :=
  ∀ s : List Byte, unboundedChecksum s = computeChecksum s

/-! ## The receive parser -/

/-- R151, R152, R153: the sync detector, for both values of SYNC_OVERLAP. -/
def Obligations.SyncDetector : Prop :=
  ∀ (overlap : Bool) (b : Byte) (s : State), s.xstate = .sent →
    (s.pstate = .sync1 → b = 0xB5#8 → receiveWith overlap b s = .next { s with pstate := .sync2 }) ∧
    (s.pstate = .sync1 → b ≠ 0xB5#8 → receiveWith overlap b s = .next s) ∧
    (s.pstate = .sync2 → b = 0x62#8 →
      receiveWith overlap b s = .next { s with pstate := .cls, rxCkA := 0#8, rxCkB := 0#8 }) ∧
    (s.pstate = .sync2 → b ≠ 0x62#8 → b = 0xB5#8 ∧ overlap = true → receiveWith overlap b s = .next s) ∧
    (s.pstate = .sync2 → b ≠ 0x62#8 → ¬(b = 0xB5#8 ∧ overlap = true) →
      receiveWith overlap b s = .next { s with pstate := .sync1 })

/-- The sync bytes at the positions that test them, in this hardware (R151, R152, R153). -/
def Obligations.SyncBytesArmAndMatch : Prop :=
  ∀ s : State, s.xstate = .sent →
    (s.pstate = .sync1 → exec .rxSync1 s = .next { s with pstate := .sync2 }) ∧
    (s.pstate = .sync2 → exec .rxSync1 s = .next { s with pstate := .sync2 }) ∧
    (s.pstate = .sync1 → exec .rxSync2 s = .next { s with pstate := .sync1 }) ∧
    (s.pstate = .sync2 → exec .rxSync2 s = .next { s with pstate := .cls, rxCkA := 0#8, rxCkB := 0#8 })

/-- R154, R155, R156, R157: the class, the id and the two length bytes are latched and absorbed, the low length byte
first; a length of 0 skips the payload. -/
def Obligations.HeaderPositions : Prop :=
  ∀ (s : State) (b : Byte) (rest : List Event), s.xstate = .sent → s.inputs = .rxByte b :: rest →
    (s.pstate = .cls → step s = .next { s with
      inputs := rest, rxCls := b, rxCkA := s.rxCkA + b, rxCkB := s.rxCkB + (s.rxCkA + b), pstate := .ident }) ∧
    (s.pstate = .ident → step s = .next { s with
      inputs := rest, rxId := b, rxCkA := s.rxCkA + b, rxCkB := s.rxCkB + (s.rxCkA + b), pstate := .len0 }) ∧
    (s.pstate = .len0 → step s = .next { s with
      inputs := rest, rxLen := s.rxLen.extractLsb' 8 8 ++ b, rxCkA := s.rxCkA + b, rxCkB := s.rxCkB + (s.rxCkA + b)
      pstate := .len1 }) ∧
    (s.pstate = .len1 → step s = .next { s with
      inputs := rest, rxLen := BitVec.ofNat 16 (s.rxLen.toNat % 256 + 256 * b.toNat), rxIdx := 0#16
      rxCkA := s.rxCkA + b, rxCkB := s.rxCkB + (s.rxCkA + b)
      pstate := if s.rxLen.toNat % 256 + 256 * b.toNat = 0 then .ckA else .payload })

/-- R158: every payload byte is absorbed, the first three are latched, and the last one ends the payload. -/
def Obligations.PayloadPosition : Prop :=
  ∀ (s : State) (b : Byte) (rest : List Event), s.xstate = .sent → s.pstate = .payload →
    s.inputs = .rxByte b :: rest →
    step s = .next { s with
      inputs := rest
      rxP0 := if s.rxIdx = 0#16 then b else s.rxP0
      rxP1 := if s.rxIdx = 1#16 then b else s.rxP1
      rxP2 := if s.rxIdx = 2#16 then b else s.rxP2
      rxCkA := s.rxCkA + b, rxCkB := s.rxCkB + (s.rxCkA + b), rxIdx := s.rxIdx + 1#16
      pstate := if s.rxIdx + 1#16 = s.rxLen then .ckA else .payload }

/-- R159, R160, R161: the first checksum byte is kept and not absorbed; the second completes the frame, which is discarded
if verification is on and the bytes are not the accumulators, and else is the instruction of its header. -/
def Obligations.ChecksumPositions : Prop :=
  ∀ (s : State) (b : Byte) (rest : List Event), s.xstate = .sent → s.inputs = .rxByte b :: rest →
    (s.pstate = .ckA → step s = .next { s with inputs := rest, rxCkaRecv := b, pstate := .ckB }) ∧
    (s.pstate = .ckB → s.verifyCk = true → ¬(s.rxCkaRecv = s.rxCkA ∧ b = s.rxCkB) →
      step s = .next { s with inputs := rest, pstate := .sync1 }) ∧
    (s.pstate = .ckB → s.verifyCk = false ∨ (s.rxCkaRecv = s.rxCkA ∧ b = s.rxCkB) →
      step s = exec (decodeReceived s.rxCls s.rxId s.rxLen) { s with inputs := rest, pstate := .sync1 })

/-- R162: fed the bytes of a frame from P_SYNC1, the parser ends in P_SYNC1 with the frame's fields latched and its
checksum in the accumulators, has changed its own registers only, and the frame is discarded exactly when verification is
on and it is not well-formed, and else classified. -/
def Obligations.ParserAgreesWithDecodeFrame : Prop :=
  ∀ (s : State) (f : List Byte) (d : FrameFields) (rest : List Event), decodeFrame f = some d → s.xstate = .sent →
    s.pstate = .sync1 → s.inputs = f.map .rxByte ++ rest →
    ∃ u, SameButParser s u ∧ u.inputs = rest ∧ u.pstate = .sync1 ∧ u.rxCls = d.cls ∧ u.rxId = d.id ∧
      u.rxLen.toNat = d.length ∧ (1 ≤ d.length → u.rxP0 = d.payload.getD 0 0#8) ∧
      (2 ≤ d.length → u.rxP1 = d.payload.getD 1 0#8) ∧ (3 ≤ d.length → u.rxP2 = d.payload.getD 2 0#8) ∧
      (u.rxCkA, u.rxCkB) = computeChecksum ((f.drop 2).take (4 + d.length)) ∧ u.rxCkaRecv = d.ckA ∧
      run f.length s =
        if s.verifyCk = true ∧ wellFormedFrame f = false then .next u
        else exec (decodeReceived d.cls d.id u.rxLen) u

/-- R161, R236: with verification on, a frame that is not well-formed is skipped whole: the exchange goes on, and no
register but the parser's own records it. -/
def Obligations.BadChecksumFrameIsSkipped : Prop :=
  ∀ (s : State) (f : List Byte) (d : FrameFields) (rest : List Event), decodeFrame f = some d →
    wellFormedFrame f = false → s.verifyCk = true → s.xstate = .sent → s.pstate = .sync1 →
    s.inputs = f.map .rxByte ++ rest →
    ∃ t, run f.length s = .next t ∧ SameButParser s t ∧ t.pstate = .sync1 ∧ t.inputs = rest

/-! ## Classification -/

/-- R184: an ACK-ACK frame that names the pending request ends the exchange Acked and changes nothing else; another one is
discarded (R187), unless the pending request expects its header as a data response (which no command asks for, R182). -/
def Obligations.AckFrameClassification : Prop :=
  ∀ (s : State) (len : Half), s.xstate = .sent →
    exec (.rxAckAck len) s = .next (
      if s.wantAck = true ∧ 2 ≤ len.toNat ∧ s.rxP0 = s.reqCls ∧ s.rxP1 = s.reqId then { s with xstate := .acked }
      else if s.wantResp = true ∧ s.expCls = 0x05#8 ∧ s.expId = 0x01#8 ∧ 2 ≤ len.toNat then
        { s with xstate := .responded, model := if 3 ≤ len.toNat then some s.rxP2 else none }
      else s)

/-- R185: the same of ACK-NAK and Naked. -/
def Obligations.NakFrameClassification : Prop :=
  ∀ (s : State) (len : Half), s.xstate = .sent →
    exec (.rxAckNak len) s = .next (
      if s.wantAck = true ∧ 2 ≤ len.toNat ∧ s.rxP0 = s.reqCls ∧ s.rxP1 = s.reqId then { s with xstate := .naked }
      else if s.wantResp = true ∧ s.expCls = 0x05#8 ∧ s.expId = 0x00#8 ∧ 2 ≤ len.toNat then
        { s with xstate := .responded, model := if 3 ≤ len.toNat then some s.rxP2 else none }
      else s)

/-- R186: the expected data response ends the exchange Responded, with the model byte if there is a byte at payload index
2, and without one if the length is exactly 2; another frame of that header is discarded. -/
def Obligations.ResponseFrameClassification : Prop :=
  ∀ (s : State) (len : Half), s.xstate = .sent →
    exec (.rxNav5Resp len) s = .next (
      if s.wantResp = true ∧ s.expCls = 0x06#8 ∧ s.expId = 0x24#8 ∧ 2 ≤ len.toNat then
        { s with xstate := .responded, model := if 3 ≤ len.toNat then some s.rxP2 else none }
      else s)

/-- R187: a frame of any other header is discarded and changes nothing, unless the pending request expects just that
header; with a pending request that a command can create (R183, part of the invariant) it is discarded outright. -/
def Obligations.OtherFrameIsDiscarded : Prop :=
  ∀ (s : State) (c i : Byte) (len : Half), s.xstate = .sent →
    ¬(c = 0x05#8 ∧ (i = 0x01#8 ∨ i = 0x00#8)) → ¬(c = 0x06#8 ∧ i = 0x24#8) →
    exec (.rxOther c i len) s = .next (
      if s.wantResp = true ∧ c = s.expCls ∧ i = s.expId ∧ 2 ≤ len.toNat then
        { s with xstate := .responded, model := if 3 ≤ len.toNat then some s.rxP2 else none }
      else s) ∧
    (PendingLegal s → exec (.rxOther c i len) s = .next s)

/-- R187, R196 (noise tolerance): behind bytes that hold no sync sequence and whole frames that nothing waits for or that
verification discards, in any number and order, the correct acknowledgement is still detected, and only the parser's registers and the exchange
state have changed. -/
def Obligations.AckFoundBehindNoise : Prop :=
  ∀ (s : State) (noise : List (List Byte)) (ack : List Byte) (rest : List Event), s.xstate = .sent →
    s.pstate = .sync1 → s.wantAck = true → (∀ bytes ∈ noise, Noise s bytes) →
    assembleFrame 0x05#8 0x01#8 [s.reqCls, s.reqId] = some ack →
    s.inputs = (noise.flatten ++ ack).map .rxByte ++ rest →
    ∃ t, run (noise.flatten ++ ack).length s = .next t ∧ t.xstate = .acked ∧ t.pstate = .sync1 ∧ t.inputs = rest ∧
      SameButParser { s with xstate := .acked } t

/-- R194: without verification any byte sequence of the shape of an acknowledgement naming the request ends the exchange
Acked, whatever its further payload and its last two bytes are. -/
def Obligations.UnverifiedAckIsAccepted : Prop :=
  ∀ (s : State) (more : List Byte) (x y : Byte) (rest : List Event), s.xstate = .sent → s.pstate = .sync1 →
    s.wantAck = true → s.verifyCk = false → more.length + 2 ≤ 65535 →
    s.inputs = ([0xB5#8, 0x62#8, 0x05#8, 0x01#8] ++ leBytes (BitVec.ofNat 16 (more.length + 2)) ++ [s.reqCls, s.reqId] ++
      more ++ [x, y]).map .rxByte ++ rest →
    ∃ t, run (10 + more.length) s = .next t ∧ t.xstate = .acked ∧ t.inputs = rest

/-- R186, R196 (poll extraction): a poll, once sent, answered by a well-formed response of at least three payload bytes,
ends Responded and register MODEL reads payload byte 2. -/
def Obligations.PollReturnsTheModelByte : Prop :=
  ∀ (s u : State) (p f : List Byte) (rest : List Event), s.xstate ≠ .sent → s.xstate ≠ .failed → s.draw.txok = true →
    exec .poll s = .next u → 3 ≤ p.length → assembleFrame 0x06#8 0x24#8 p = some f →
    s.inputs = f.map .rxByte ++ rest →
    ∃ t, run f.length u = .next t ∧ t.xstate = .responded ∧ readReg 5 t = .next ((p.getD 2 0#8).setWidth 32) ∧
      t.inputs = rest

/-! ## The deadline -/

/-- R190: the effect of one tick in every state. -/
def Obligations.TickCountsDown : Prop :=
  ∀ (s : State) (rest : List Event), s.inputs = .tick :: rest →
    (s.xstate = .sent → s.dlEn = true → s.dlCnt = 0#32 → step s = .next { s with inputs := rest, xstate := .timedOut }) ∧
    (s.xstate = .sent → s.dlEn = true → s.dlCnt ≠ 0#32 →
      step s = .next { s with inputs := rest, dlCnt := BitVec.ofNat 32 (s.dlCnt.toNat - 1) }) ∧
    (s.xstate ≠ .sent ∨ s.dlEn = false → step s = .next { s with inputs := rest })

/-- R190, R191: an exchange whose deadline holds `T` ticks is still in Sent after `T` ticks and TimedOut, with no error,
on the tick after. -/
def Obligations.TimesOutOnTickAfterDeadline : Prop :=
  ∀ (s : State) (rest : List Event), s.xstate = .sent → s.dlEn = true →
    s.inputs = List.replicate (s.dlCnt.toNat + 1) .tick ++ rest →
    (∀ j, j ≤ s.dlCnt.toNat → ∃ t, run j s = .next t ∧ t.xstate = .sent ∧ t.dlCnt.toNat = s.dlCnt.toNat - j) ∧
    run (s.dlCnt.toNat + 1) s = .next { s with inputs := rest, dlCnt := 0#32, xstate := .timedOut }

/-- R187, R190: the deadline is absolute: while the exchange stays open, bytes received in between, whole frames among
them, neither restart nor extend it. -/
def Obligations.DeadlineIsAbsolute : Prop :=
  ∀ (s t : State) (es rest : List Event), s.xstate = .sent → s.dlEn = true →
    (∀ e ∈ es, e = .tick ∨ ∃ b, e = .rxByte b) → s.inputs = es ++ rest → run es.length s = .next t →
    t.xstate = .sent → t.dlCnt.toNat + es.count .tick = s.dlCnt.toNat ∧ t.dlEn = true

/-- R192, R275: an exchange without a deadline is never ended by ticks, however many. -/
def Obligations.UnboundedPollIgnoresTicks : Prop :=
  ∀ (n : Nat) (s : State) (rest : List Event), s.xstate = .sent → s.dlEn = false →
    s.inputs = List.replicate n .tick ++ rest → run n s = .next { s with inputs := rest }

/-! ## Failure of the stream, configuration, host registers -/

/-- R233: `RxFail` in Sent ends in Failed with E_XPORT and leaves all else as it was; elsewhere it has no step.
That the event without a step is the refusal rxFailNotEnabled is log entry 12 (U15). -/
def Obligations.RxFailEndsInFailed : Prop :=
  ∀ (s : State) (rest : List Event), s.inputs = .rxFail :: rest →
    (s.xstate = .sent → step s = .next { s with inputs := rest, err := .eXport, xstate := .failed }) ∧
    (s.xstate ≠ .sent → step s = .refused .rxFailNotEnabled)

/-- R221: `CfgWr` in every state and to every register number; in Sent it has no step. That the event without a step is
the refusal cfgWrNotEnabled is log entry 12 (U15). -/
def Obligations.ConfigurationWrite : Prop :=
  ∀ (s : State) (n : Nat) (v : Word) (rest : List Event), s.inputs = .cfgWr n v :: rest →
    (s.xstate = .sent → step s = .refused .cfgWrNotEnabled) ∧
    (s.xstate ≠ .sent → n = 0 →
      step s = .next { s with inputs := rest, verifyCk := v.getLsbD 0, tmoPollEn := v.getLsbD 1 }) ∧
    (s.xstate ≠ .sent → n = 1 → step s = .next { s with inputs := rest, tmoAck := v }) ∧
    (s.xstate ≠ .sent → n = 2 → step s = .next { s with inputs := rest, tmoPoll := v }) ∧
    (s.xstate ≠ .sent → 3 ≤ n → step s = .next { s with inputs := rest })

/-- R43: the fields of STATUS, with the codes of R21 and R28 written out. -/
def Obligations.StatusFields : Prop :=
  ∀ s : State,
    ∃ v : Word, readReg 3 s = .next v ∧
      ((v.toNat % 8 = 0 ↔ s.xstate = .idle) ∧ (v.toNat % 8 = 1 ↔ s.xstate = .sent) ∧
        (v.toNat % 8 = 2 ↔ s.xstate = .acked) ∧ (v.toNat % 8 = 3 ↔ s.xstate = .naked) ∧
        (v.toNat % 8 = 4 ↔ s.xstate = .responded) ∧ (v.toNat % 8 = 5 ↔ s.xstate = .timedOut) ∧
        (v.toNat % 8 = 6 ↔ s.xstate = .failed)) ∧
      ((v.toNat / 2 ^ 3 % 16 = 0 ↔ s.pstate = .sync1) ∧ (v.toNat / 2 ^ 3 % 16 = 1 ↔ s.pstate = .sync2) ∧
        (v.toNat / 2 ^ 3 % 16 = 2 ↔ s.pstate = .cls) ∧ (v.toNat / 2 ^ 3 % 16 = 3 ↔ s.pstate = .ident) ∧
        (v.toNat / 2 ^ 3 % 16 = 4 ↔ s.pstate = .len0) ∧ (v.toNat / 2 ^ 3 % 16 = 5 ↔ s.pstate = .len1) ∧
        (v.toNat / 2 ^ 3 % 16 = 6 ↔ s.pstate = .payload) ∧ (v.toNat / 2 ^ 3 % 16 = 7 ↔ s.pstate = .ckA) ∧
        (v.toNat / 2 ^ 3 % 16 = 8 ↔ s.pstate = .ckB)) ∧
      v.toNat / 2 ^ 7 % 2 = (if s.xstate = .sent then 1 else 0) ∧
      v.toNat / 2 ^ 8 % 2 = (if s.xstate = .idle ∨ s.xstate = .sent then 0 else 1) ∧
      v.toNat / 2 ^ 9 % 2 = (if s.model.isSome = true then 1 else 0) ∧
      v.toNat / 2 ^ 10 % 2 = (if s.dlEn = true then 1 else 0) ∧ v.toNat / 2 ^ 11 = 0

/-- R30, R44, R46: RESULT and ERR; a timeout reads Unknown, which is not Rejected. -/
def Obligations.ResultAndErrorRead : Prop :=
  ∀ s : State,
    (∃ v : Word, readReg 4 s = .next v ∧
      (v = 1#32 ↔ s.xstate = .acked) ∧ (v = 2#32 ↔ s.xstate = .naked) ∧ (v = 3#32 ↔ s.xstate = .timedOut) ∧
      v.toNat ≤ 3) ∧
    (∃ v : Word, readReg 6 s = .next v ∧
      (v = 0#32 ↔ s.err = .none) ∧ (v = 1#32 ↔ s.err = .eLen) ∧ (v = 2#32 ↔ s.err = .eXport) ∧
      (v = 3#32 ↔ s.err = .eOp))

/-- R26, R45: MODEL reads the model byte of a Responded exchange that holds one, and every other read of it is the
program's error (U3). -/
def Obligations.ModelReadsOnlyWhenValid : Prop :=
  ∀ s : State,
    (∀ b, s.xstate = .responded → s.model = some b → readReg 5 s = .next (b.setWidth 32)) ∧
    (s.xstate ≠ .responded ∨ s.model = none → readReg 5 s = .fault .modelNotValid)

/-- R32, R40, R41, R42, R47: what was written to the configuration registers is read back, reserved bits as 0; DLCNT reads
the counter of an exchange with a deadline; reserved registers read 0. -/
def Obligations.ConfigurationReadsBack : Prop :=
  ∀ (s : State) (v : Word),
    readReg 0 (writeReg 0 v s) = .next (v &&& 3#32) ∧ readReg 1 (writeReg 1 v s) = .next v ∧
    readReg 2 (writeReg 2 v s) = .next v ∧
    (s.xstate = .sent → s.dlEn = true → readReg 7 s = .next s.dlCnt) ∧
    ∀ n, 8 ≤ n → readReg n s = .next 0#32 ∧ writeReg n v s = s

/-- R195: the ten names, and Unknown for every other code. -/
def Obligations.ModelNames : Prop :=
  ["Portable", "Stationary", "Pedestrian", "Automotive", "Sea", "Airborne <4g", "Airborne <1g", "Airborne <2g", "Wrist",
      "Bike"] = (List.range 10).map (fun n => modelName (BitVec.ofNat 8 n)) ∧
    ∀ code : Byte, 10 ≤ code.toNat → modelName code = "Unknown"

/-! ## Encoding -/

/-- Decoding the presented form of a well-formed instruction gives it back, with every operand (R80 to R99, R104). -/
def Obligations.DecodeOfEncodeIsTheInstruction : Prop :=
  ∀ i : Instr, i.wf = true → decode (encode i) = .ok i

/-- A word of each family, written out from the spec's encodings, decodes to the instruction it stands for (R92, R97, R104).
In the transmitted SET the six header bytes are the spec's; the operand byte behind them is the model's own form, log
entry 18. -/
def Obligations.WrittenWordsDecode : Prop :=
  decodeTableWord 32 0x10000000 = some .poll ∧ decodeTableWord 32 0x20060000 = some (.set 6#8) ∧
    decodeTableWord 32 0x3001FFFF = some (.rstf 0x01#8 0xFFFF#16) ∧
    decodeTableWord 32 0x40000000 = some (.rstc 0x00#8 0x0000#16) ∧
    decodeTableWord 32 0x50ABCD00 = some (.raw 0xAB#8 0xCD#8 []) ∧
    decodeTableWord 32 0x60000000 = some (.cwIllegal 0x60000000#32) ∧
    decodeBytes .transmit [0xB5#8, 0x62#8, 0x06#8, 0x24#8, 0x24#8, 0x00#8, 0x06#8] = .ok (.txNav5Set 6#8) ∧
    decodeBytes .receive [0xB5#8, 0x62#8, 0x05#8, 0x01#8, 0x02#8, 0x00#8] = .ok (.rxAckAck 2#16) ∧
    decodeBytes .receive [0xB5#8, 0x62#8, 0x01#8, 0x07#8, 0x04#8, 0x00#8] = .ok (.rxOther 0x01#8 0x07#8 4#16) ∧
    decodeTableWord 8 0xB5 = some .rxSync1 ∧ decodeTableWord 8 0x62 = some .rxSync2

/-- R98: a payload presented with a command word other than RAW's is ignored. -/
def Obligations.PayloadIgnoredButByRaw : Prop :=
  ∀ (cw : Word) (p q : List Byte), cw.toNat / 2 ^ 28 ≠ 5 → decodeCommand cw p = decodeCommand cw q
end

