-- ==== Sys2Proof/Laws/State.lean ====
section
/-! SUPPORT. One lemma per field per update of the shared operations, true by `rfl`: later proofs cite these and unfold no
record update. -/

namespace Sys2Proof.Machine

variable (s : State)

@[simp] theorem accept_xstate : (accept s).xstate = .idle := rfl
@[simp] theorem accept_pstate : (accept s).pstate = s.pstate := rfl
@[simp] theorem accept_rxIdx : (accept s).rxIdx = s.rxIdx := rfl
@[simp] theorem accept_rxCls : (accept s).rxCls = s.rxCls := rfl
@[simp] theorem accept_rxId : (accept s).rxId = s.rxId := rfl
@[simp] theorem accept_rxLen : (accept s).rxLen = s.rxLen := rfl
@[simp] theorem accept_rxP0 : (accept s).rxP0 = s.rxP0 := rfl
@[simp] theorem accept_rxP1 : (accept s).rxP1 = s.rxP1 := rfl
@[simp] theorem accept_rxP2 : (accept s).rxP2 = s.rxP2 := rfl
@[simp] theorem accept_rxCkA : (accept s).rxCkA = s.rxCkA := rfl
@[simp] theorem accept_rxCkB : (accept s).rxCkB = s.rxCkB := rfl
@[simp] theorem accept_rxCkaRecv : (accept s).rxCkaRecv = s.rxCkaRecv := rfl
@[simp] theorem accept_reqCls : (accept s).reqCls = s.reqCls := rfl
@[simp] theorem accept_reqId : (accept s).reqId = s.reqId := rfl
@[simp] theorem accept_wantAck : (accept s).wantAck = s.wantAck := rfl
@[simp] theorem accept_wantResp : (accept s).wantResp = s.wantResp := rfl
@[simp] theorem accept_expCls : (accept s).expCls = s.expCls := rfl
@[simp] theorem accept_expId : (accept s).expId = s.expId := rfl
@[simp] theorem accept_dlEn : (accept s).dlEn = s.dlEn := rfl
@[simp] theorem accept_dlCnt : (accept s).dlCnt = s.dlCnt := rfl
@[simp] theorem accept_model : (accept s).model = none := rfl
@[simp] theorem accept_err : (accept s).err = .none := rfl
@[simp] theorem accept_verifyCk : (accept s).verifyCk = s.verifyCk := rfl
@[simp] theorem accept_tmoPollEn : (accept s).tmoPollEn = s.tmoPollEn := rfl
@[simp] theorem accept_tmoAck : (accept s).tmoAck = s.tmoAck := rfl
@[simp] theorem accept_tmoPoll : (accept s).tmoPoll = s.tmoPoll := rfl
@[simp] theorem accept_tx : (accept s).tx = s.tx := rfl
@[simp] theorem accept_inputs : (accept s).inputs = s.inputs := rfl
@[simp] theorem accept_draw : (accept s).draw = s.draw := rfl
@[simp] theorem accept_freeCtr : (accept s).freeCtr = s.freeCtr := rfl

@[simp] theorem raise_xstate (e : Err) : (raise e s).xstate = if e = .eXport then .failed else .idle := rfl
@[simp] theorem raise_pstate (e : Err) : (raise e s).pstate = s.pstate := rfl
@[simp] theorem raise_rxIdx (e : Err) : (raise e s).rxIdx = s.rxIdx := rfl
@[simp] theorem raise_rxCls (e : Err) : (raise e s).rxCls = s.rxCls := rfl
@[simp] theorem raise_rxId (e : Err) : (raise e s).rxId = s.rxId := rfl
@[simp] theorem raise_rxLen (e : Err) : (raise e s).rxLen = s.rxLen := rfl
@[simp] theorem raise_rxP0 (e : Err) : (raise e s).rxP0 = s.rxP0 := rfl
@[simp] theorem raise_rxP1 (e : Err) : (raise e s).rxP1 = s.rxP1 := rfl
@[simp] theorem raise_rxP2 (e : Err) : (raise e s).rxP2 = s.rxP2 := rfl
@[simp] theorem raise_rxCkA (e : Err) : (raise e s).rxCkA = s.rxCkA := rfl
@[simp] theorem raise_rxCkB (e : Err) : (raise e s).rxCkB = s.rxCkB := rfl
@[simp] theorem raise_rxCkaRecv (e : Err) : (raise e s).rxCkaRecv = s.rxCkaRecv := rfl
@[simp] theorem raise_reqCls (e : Err) : (raise e s).reqCls = s.reqCls := rfl
@[simp] theorem raise_reqId (e : Err) : (raise e s).reqId = s.reqId := rfl
@[simp] theorem raise_wantAck (e : Err) : (raise e s).wantAck = s.wantAck := rfl
@[simp] theorem raise_wantResp (e : Err) : (raise e s).wantResp = s.wantResp := rfl
@[simp] theorem raise_expCls (e : Err) : (raise e s).expCls = s.expCls := rfl
@[simp] theorem raise_expId (e : Err) : (raise e s).expId = s.expId := rfl
@[simp] theorem raise_dlEn (e : Err) : (raise e s).dlEn = s.dlEn := rfl
@[simp] theorem raise_dlCnt (e : Err) : (raise e s).dlCnt = s.dlCnt := rfl
@[simp] theorem raise_model (e : Err) : (raise e s).model = s.model := rfl
@[simp] theorem raise_err (e : Err) : (raise e s).err = e := rfl
@[simp] theorem raise_verifyCk (e : Err) : (raise e s).verifyCk = s.verifyCk := rfl
@[simp] theorem raise_tmoPollEn (e : Err) : (raise e s).tmoPollEn = s.tmoPollEn := rfl
@[simp] theorem raise_tmoAck (e : Err) : (raise e s).tmoAck = s.tmoAck := rfl
@[simp] theorem raise_tmoPoll (e : Err) : (raise e s).tmoPoll = s.tmoPoll := rfl
@[simp] theorem raise_tx (e : Err) : (raise e s).tx = s.tx := rfl
@[simp] theorem raise_inputs (e : Err) : (raise e s).inputs = s.inputs := rfl
@[simp] theorem raise_draw (e : Err) : (raise e s).draw = s.draw := rfl
@[simp] theorem raise_freeCtr (e : Err) : (raise e s).freeCtr = s.freeCtr := rfl

@[simp] theorem txWrite_xstate (bytes : List Byte) : (txWrite bytes s).xstate = s.xstate := rfl
@[simp] theorem txWrite_pstate (bytes : List Byte) : (txWrite bytes s).pstate = s.pstate := rfl
@[simp] theorem txWrite_rxIdx (bytes : List Byte) : (txWrite bytes s).rxIdx = s.rxIdx := rfl
@[simp] theorem txWrite_rxCls (bytes : List Byte) : (txWrite bytes s).rxCls = s.rxCls := rfl
@[simp] theorem txWrite_rxId (bytes : List Byte) : (txWrite bytes s).rxId = s.rxId := rfl
@[simp] theorem txWrite_rxLen (bytes : List Byte) : (txWrite bytes s).rxLen = s.rxLen := rfl
@[simp] theorem txWrite_rxP0 (bytes : List Byte) : (txWrite bytes s).rxP0 = s.rxP0 := rfl
@[simp] theorem txWrite_rxP1 (bytes : List Byte) : (txWrite bytes s).rxP1 = s.rxP1 := rfl
@[simp] theorem txWrite_rxP2 (bytes : List Byte) : (txWrite bytes s).rxP2 = s.rxP2 := rfl
@[simp] theorem txWrite_rxCkA (bytes : List Byte) : (txWrite bytes s).rxCkA = s.rxCkA := rfl
@[simp] theorem txWrite_rxCkB (bytes : List Byte) : (txWrite bytes s).rxCkB = s.rxCkB := rfl
@[simp] theorem txWrite_rxCkaRecv (bytes : List Byte) : (txWrite bytes s).rxCkaRecv = s.rxCkaRecv := rfl
@[simp] theorem txWrite_reqCls (bytes : List Byte) : (txWrite bytes s).reqCls = s.reqCls := rfl
@[simp] theorem txWrite_reqId (bytes : List Byte) : (txWrite bytes s).reqId = s.reqId := rfl
@[simp] theorem txWrite_wantAck (bytes : List Byte) : (txWrite bytes s).wantAck = s.wantAck := rfl
@[simp] theorem txWrite_wantResp (bytes : List Byte) : (txWrite bytes s).wantResp = s.wantResp := rfl
@[simp] theorem txWrite_expCls (bytes : List Byte) : (txWrite bytes s).expCls = s.expCls := rfl
@[simp] theorem txWrite_expId (bytes : List Byte) : (txWrite bytes s).expId = s.expId := rfl
@[simp] theorem txWrite_dlEn (bytes : List Byte) : (txWrite bytes s).dlEn = s.dlEn := rfl
@[simp] theorem txWrite_dlCnt (bytes : List Byte) : (txWrite bytes s).dlCnt = s.dlCnt := rfl
@[simp] theorem txWrite_model (bytes : List Byte) : (txWrite bytes s).model = s.model := rfl
@[simp] theorem txWrite_err (bytes : List Byte) : (txWrite bytes s).err = s.err := rfl
@[simp] theorem txWrite_verifyCk (bytes : List Byte) : (txWrite bytes s).verifyCk = s.verifyCk := rfl
@[simp] theorem txWrite_tmoPollEn (bytes : List Byte) : (txWrite bytes s).tmoPollEn = s.tmoPollEn := rfl
@[simp] theorem txWrite_tmoAck (bytes : List Byte) : (txWrite bytes s).tmoAck = s.tmoAck := rfl
@[simp] theorem txWrite_tmoPoll (bytes : List Byte) : (txWrite bytes s).tmoPoll = s.tmoPoll := rfl
@[simp] theorem txWrite_tx (bytes : List Byte) : (txWrite bytes s).tx = s.tx ++ bytes := rfl
@[simp] theorem txWrite_inputs (bytes : List Byte) : (txWrite bytes s).inputs = s.inputs := rfl
@[simp] theorem txWrite_draw (bytes : List Byte) : (txWrite bytes s).draw = s.draw := rfl
@[simp] theorem txWrite_freeCtr (bytes : List Byte) : (txWrite bytes s).freeCtr = s.freeCtr := rfl

@[simp] theorem openExchange_xstate (x : Exchange) : (openExchange x s).xstate = .sent := rfl
@[simp] theorem openExchange_pstate (x : Exchange) : (openExchange x s).pstate = .sync1 := rfl
@[simp] theorem openExchange_rxIdx (x : Exchange) : (openExchange x s).rxIdx = s.rxIdx := rfl
@[simp] theorem openExchange_rxCls (x : Exchange) : (openExchange x s).rxCls = s.rxCls := rfl
@[simp] theorem openExchange_rxId (x : Exchange) : (openExchange x s).rxId = s.rxId := rfl
@[simp] theorem openExchange_rxLen (x : Exchange) : (openExchange x s).rxLen = s.rxLen := rfl
@[simp] theorem openExchange_rxP0 (x : Exchange) : (openExchange x s).rxP0 = s.rxP0 := rfl
@[simp] theorem openExchange_rxP1 (x : Exchange) : (openExchange x s).rxP1 = s.rxP1 := rfl
@[simp] theorem openExchange_rxP2 (x : Exchange) : (openExchange x s).rxP2 = s.rxP2 := rfl
@[simp] theorem openExchange_rxCkA (x : Exchange) : (openExchange x s).rxCkA = s.rxCkA := rfl
@[simp] theorem openExchange_rxCkB (x : Exchange) : (openExchange x s).rxCkB = s.rxCkB := rfl
@[simp] theorem openExchange_rxCkaRecv (x : Exchange) : (openExchange x s).rxCkaRecv = s.rxCkaRecv := rfl
@[simp] theorem openExchange_reqCls (x : Exchange) : (openExchange x s).reqCls = x.reqCls := rfl
@[simp] theorem openExchange_reqId (x : Exchange) : (openExchange x s).reqId = x.reqId := rfl
@[simp] theorem openExchange_wantAck (x : Exchange) : (openExchange x s).wantAck = x.wantAck := rfl
@[simp] theorem openExchange_wantResp (x : Exchange) : (openExchange x s).wantResp = x.wantResp := rfl
@[simp] theorem openExchange_expCls (x : Exchange) : (openExchange x s).expCls = x.expCls := rfl
@[simp] theorem openExchange_expId (x : Exchange) : (openExchange x s).expId = x.expId := rfl
@[simp] theorem openExchange_dlEn (x : Exchange) : (openExchange x s).dlEn = x.dlEn := rfl
@[simp] theorem openExchange_dlCnt (x : Exchange) : (openExchange x s).dlCnt = x.dlCnt := rfl
@[simp] theorem openExchange_model (x : Exchange) : (openExchange x s).model = s.model := rfl
@[simp] theorem openExchange_err (x : Exchange) : (openExchange x s).err = s.err := rfl
@[simp] theorem openExchange_verifyCk (x : Exchange) : (openExchange x s).verifyCk = s.verifyCk := rfl
@[simp] theorem openExchange_tmoPollEn (x : Exchange) : (openExchange x s).tmoPollEn = s.tmoPollEn := rfl
@[simp] theorem openExchange_tmoAck (x : Exchange) : (openExchange x s).tmoAck = s.tmoAck := rfl
@[simp] theorem openExchange_tmoPoll (x : Exchange) : (openExchange x s).tmoPoll = s.tmoPoll := rfl
@[simp] theorem openExchange_tx (x : Exchange) : (openExchange x s).tx = s.tx := rfl
@[simp] theorem openExchange_inputs (x : Exchange) : (openExchange x s).inputs = s.inputs := rfl
@[simp] theorem openExchange_draw (x : Exchange) : (openExchange x s).draw = s.draw := rfl
@[simp] theorem openExchange_freeCtr (x : Exchange) : (openExchange x s).freeCtr = s.freeCtr + x.draws := rfl

@[simp] theorem ckClear_xstate : (ckClear s).xstate = s.xstate := rfl
@[simp] theorem ckClear_pstate : (ckClear s).pstate = s.pstate := rfl
@[simp] theorem ckClear_rxIdx : (ckClear s).rxIdx = s.rxIdx := rfl
@[simp] theorem ckClear_rxCls : (ckClear s).rxCls = s.rxCls := rfl
@[simp] theorem ckClear_rxId : (ckClear s).rxId = s.rxId := rfl
@[simp] theorem ckClear_rxLen : (ckClear s).rxLen = s.rxLen := rfl
@[simp] theorem ckClear_rxP0 : (ckClear s).rxP0 = s.rxP0 := rfl
@[simp] theorem ckClear_rxP1 : (ckClear s).rxP1 = s.rxP1 := rfl
@[simp] theorem ckClear_rxP2 : (ckClear s).rxP2 = s.rxP2 := rfl
@[simp] theorem ckClear_rxCkA : (ckClear s).rxCkA = 0#8 := rfl
@[simp] theorem ckClear_rxCkB : (ckClear s).rxCkB = 0#8 := rfl
@[simp] theorem ckClear_rxCkaRecv : (ckClear s).rxCkaRecv = s.rxCkaRecv := rfl
@[simp] theorem ckClear_reqCls : (ckClear s).reqCls = s.reqCls := rfl
@[simp] theorem ckClear_reqId : (ckClear s).reqId = s.reqId := rfl
@[simp] theorem ckClear_wantAck : (ckClear s).wantAck = s.wantAck := rfl
@[simp] theorem ckClear_wantResp : (ckClear s).wantResp = s.wantResp := rfl
@[simp] theorem ckClear_expCls : (ckClear s).expCls = s.expCls := rfl
@[simp] theorem ckClear_expId : (ckClear s).expId = s.expId := rfl
@[simp] theorem ckClear_dlEn : (ckClear s).dlEn = s.dlEn := rfl
@[simp] theorem ckClear_dlCnt : (ckClear s).dlCnt = s.dlCnt := rfl
@[simp] theorem ckClear_model : (ckClear s).model = s.model := rfl
@[simp] theorem ckClear_err : (ckClear s).err = s.err := rfl
@[simp] theorem ckClear_verifyCk : (ckClear s).verifyCk = s.verifyCk := rfl
@[simp] theorem ckClear_tmoPollEn : (ckClear s).tmoPollEn = s.tmoPollEn := rfl
@[simp] theorem ckClear_tmoAck : (ckClear s).tmoAck = s.tmoAck := rfl
@[simp] theorem ckClear_tmoPoll : (ckClear s).tmoPoll = s.tmoPoll := rfl
@[simp] theorem ckClear_tx : (ckClear s).tx = s.tx := rfl
@[simp] theorem ckClear_inputs : (ckClear s).inputs = s.inputs := rfl
@[simp] theorem ckClear_draw : (ckClear s).draw = s.draw := rfl
@[simp] theorem ckClear_freeCtr : (ckClear s).freeCtr = s.freeCtr := rfl

@[simp] theorem ckAbsorb_xstate (b : Byte) : (ckAbsorb b s).xstate = s.xstate := rfl
@[simp] theorem ckAbsorb_pstate (b : Byte) : (ckAbsorb b s).pstate = s.pstate := rfl
@[simp] theorem ckAbsorb_rxIdx (b : Byte) : (ckAbsorb b s).rxIdx = s.rxIdx := rfl
@[simp] theorem ckAbsorb_rxCls (b : Byte) : (ckAbsorb b s).rxCls = s.rxCls := rfl
@[simp] theorem ckAbsorb_rxId (b : Byte) : (ckAbsorb b s).rxId = s.rxId := rfl
@[simp] theorem ckAbsorb_rxLen (b : Byte) : (ckAbsorb b s).rxLen = s.rxLen := rfl
@[simp] theorem ckAbsorb_rxP0 (b : Byte) : (ckAbsorb b s).rxP0 = s.rxP0 := rfl
@[simp] theorem ckAbsorb_rxP1 (b : Byte) : (ckAbsorb b s).rxP1 = s.rxP1 := rfl
@[simp] theorem ckAbsorb_rxP2 (b : Byte) : (ckAbsorb b s).rxP2 = s.rxP2 := rfl
@[simp] theorem ckAbsorb_rxCkA (b : Byte) : (ckAbsorb b s).rxCkA = s.rxCkA + b := rfl
@[simp] theorem ckAbsorb_rxCkB (b : Byte) : (ckAbsorb b s).rxCkB = s.rxCkB + (s.rxCkA + b) := rfl
@[simp] theorem ckAbsorb_rxCkaRecv (b : Byte) : (ckAbsorb b s).rxCkaRecv = s.rxCkaRecv := rfl
@[simp] theorem ckAbsorb_reqCls (b : Byte) : (ckAbsorb b s).reqCls = s.reqCls := rfl
@[simp] theorem ckAbsorb_reqId (b : Byte) : (ckAbsorb b s).reqId = s.reqId := rfl
@[simp] theorem ckAbsorb_wantAck (b : Byte) : (ckAbsorb b s).wantAck = s.wantAck := rfl
@[simp] theorem ckAbsorb_wantResp (b : Byte) : (ckAbsorb b s).wantResp = s.wantResp := rfl
@[simp] theorem ckAbsorb_expCls (b : Byte) : (ckAbsorb b s).expCls = s.expCls := rfl
@[simp] theorem ckAbsorb_expId (b : Byte) : (ckAbsorb b s).expId = s.expId := rfl
@[simp] theorem ckAbsorb_dlEn (b : Byte) : (ckAbsorb b s).dlEn = s.dlEn := rfl
@[simp] theorem ckAbsorb_dlCnt (b : Byte) : (ckAbsorb b s).dlCnt = s.dlCnt := rfl
@[simp] theorem ckAbsorb_model (b : Byte) : (ckAbsorb b s).model = s.model := rfl
@[simp] theorem ckAbsorb_err (b : Byte) : (ckAbsorb b s).err = s.err := rfl
@[simp] theorem ckAbsorb_verifyCk (b : Byte) : (ckAbsorb b s).verifyCk = s.verifyCk := rfl
@[simp] theorem ckAbsorb_tmoPollEn (b : Byte) : (ckAbsorb b s).tmoPollEn = s.tmoPollEn := rfl
@[simp] theorem ckAbsorb_tmoAck (b : Byte) : (ckAbsorb b s).tmoAck = s.tmoAck := rfl
@[simp] theorem ckAbsorb_tmoPoll (b : Byte) : (ckAbsorb b s).tmoPoll = s.tmoPoll := rfl
@[simp] theorem ckAbsorb_tx (b : Byte) : (ckAbsorb b s).tx = s.tx := rfl
@[simp] theorem ckAbsorb_inputs (b : Byte) : (ckAbsorb b s).inputs = s.inputs := rfl
@[simp] theorem ckAbsorb_draw (b : Byte) : (ckAbsorb b s).draw = s.draw := rfl
@[simp] theorem ckAbsorb_freeCtr (b : Byte) : (ckAbsorb b s).freeCtr = s.freeCtr := rfl

@[simp] theorem blockReset_xstate (hz : Nat) : (blockReset hz s).xstate = .idle := rfl
@[simp] theorem blockReset_pstate (hz : Nat) : (blockReset hz s).pstate = .sync1 := rfl
@[simp] theorem blockReset_wantAck (hz : Nat) : (blockReset hz s).wantAck = false := rfl
@[simp] theorem blockReset_wantResp (hz : Nat) : (blockReset hz s).wantResp = false := rfl
@[simp] theorem blockReset_dlEn (hz : Nat) : (blockReset hz s).dlEn = false := rfl
@[simp] theorem blockReset_model (hz : Nat) : (blockReset hz s).model = none := rfl
@[simp] theorem blockReset_err (hz : Nat) : (blockReset hz s).err = .none := rfl
@[simp] theorem blockReset_verifyCk (hz : Nat) : (blockReset hz s).verifyCk = false := rfl
@[simp] theorem blockReset_tmoPollEn (hz : Nat) : (blockReset hz s).tmoPollEn = false := rfl
@[simp] theorem blockReset_tmoAck (hz : Nat) : (blockReset hz s).tmoAck = BitVec.ofNat 32 (2 * hz) := rfl
@[simp] theorem blockReset_tx (hz : Nat) : (blockReset hz s).tx = [] := rfl
@[simp] theorem blockReset_inputs (hz : Nat) : (blockReset hz s).inputs = s.inputs := rfl
@[simp] theorem blockReset_draw (hz : Nat) : (blockReset hz s).draw = s.draw := rfl
@[simp] theorem blockReset_freeCtr (hz : Nat) : (blockReset hz s).freeCtr = s.freeCtr + 16 := rfl

end Sys2Proof.Machine
end

