-- ==== Sys2Proof/Laws/Ops.lean ====
section
/-! SUPPORT. What each shared operation can do, said once. -/

namespace Sys2Proof.Machine

/-! Readiness. -/

theorem cmdReady_iff (s : State) : cmdReady s = true ↔ s.xstate ≠ .sent ∧ s.xstate ≠ .failed := by
  cases h : s.xstate <;> simp [cmdReady, h]

@[simp] theorem cmdReady_accept (s : State) : cmdReady (accept s) = true := rfl

/-! STATUS. -/

theorem append_toNat {m n : Nat} (x : BitVec m) (y : BitVec n) : (x ++ y).toNat = 2 ^ n * x.toNat + y.toNat := by
  rw [BitVec.toNat_append, ← Nat.shiftLeft_add_eq_or_of_lt y.isLt, Nat.shiftLeft_eq, Nat.mul_comm]

/-- STATUS as the sum of its fields (R43). -/
theorem statusWord_toNat (s : State) :
    (statusWord s).toNat =
      1024 * s.dlEn.toNat + 512 * (modelValid s).toNat + 256 * (done s).toNat + 128 * (busy s).toNat +
        8 * (pstateCode s.pstate).toNat + (xstateCode s.xstate).toNat := by
  simp only [statusWord, append_toNat, BitVec.toNat_ofBool, BitVec.toNat_ofNat]
  omega

/-! Frames. -/

theorem assembleFrame_of_le {cls id : Byte} {p : List Byte} (h : p.length ≤ 65535) :
    assembleFrame cls id p =
      some ([0xB5#8, 0x62#8] ++ frameBody cls id p ++
        [(computeChecksum (frameBody cls id p)).1, (computeChecksum (frameBody cls id p)).2]) := by
  simp [assembleFrame, Config.maxPayload, h, Config.sync1, Config.sync2]

theorem assembleFrame_of_gt {cls id : Byte} {p : List Byte} (h : 65535 < p.length) : assembleFrame cls id p = none := by
  simp only [assembleFrame, Config.maxPayload]
  exact if_neg (by omega)

@[simp] theorem nav5SetPayload_length (m : Byte) : (nav5SetPayload m).length = 36 := rfl

@[simp] theorem rstPayload_length (t : Byte) (mask : Half) : (rstPayload t mask).length = 4 := rfl

/-! Sending a frame: the three ways it ends. -/

theorem sendFrame_too_long {cls id : Byte} {p : List Byte} {after : State → State} {s : State}
    (h : assembleFrame cls id p = none) : sendFrame cls id p after s = raise .eLen s := by
  simp [sendFrame, h]

theorem sendFrame_ok {cls id : Byte} {p f : List Byte} {after : State → State} {s : State}
    (h : assembleFrame cls id p = some f) (hok : s.draw.txok = true) :
    sendFrame cls id p after s = after (txWrite f s) := by
  simp [sendFrame, h, hok]

theorem sendFrame_fails {cls id : Byte} {p f : List Byte} {after : State → State} {s : State}
    (h : assembleFrame cls id p = some f) (hfail : s.draw.txok = false) :
    sendFrame cls id p after s = raise .eXport (txWrite (failedPart s.draw.k f) s) := by
  simp [sendFrame, h, hfail]

/-! The frames of steps that are enabled in some states only. -/

theorem commandStep_ready {effect : State → State} {s : State} (h : cmdReady s = true) :
    commandStep effect s = .next (effect (accept s)) := by
  simp [commandStep, h]

theorem commandStep_not_ready {effect : State → State} {s : State} (h : cmdReady s = false) :
    commandStep effect s = .refused .cmdNotEnabled := by
  simp [commandStep, h]

theorem transmitStep_ready {cls id : Byte} {p : List Byte} {s : State} (h : cmdReady s = true) :
    transmitStep cls id p s = .next (sendFrame cls id p (fun t => t) s) := by
  simp [transmitStep, h]

theorem transmitStep_not_ready {cls id : Byte} {p : List Byte} {s : State} (h : cmdReady s = false) :
    transmitStep cls id p s = .refused .cmdNotEnabled := by
  simp [transmitStep, h]

theorem classifyStep_sent {cls id : Byte} {len : Half} {s : State} (h : s.xstate = .sent) :
    classifyStep cls id len s = .next (classify cls id len s) := by
  simp [classifyStep, h]

/-- What classification can do (R184 to R187). -/
theorem classify_cases (cls id : Byte) (len : Half) (s : State) :
    (namesRequest Config.idAck cls id len s = true ∧ classify cls id len s = { s with xstate := .acked }) ∨
    (namesRequest Config.idNak cls id len s = true ∧ classify cls id len s = { s with xstate := .naked }) ∨
    (isResponse cls id len s = true ∧
      classify cls id len s =
        { s with xstate := .responded, model := if 3 ≤ len.toNat then some s.rxP2 else none }) ∨
    (namesRequest Config.idAck cls id len s = false ∧ namesRequest Config.idNak cls id len s = false ∧
      isResponse cls id len s = false ∧ classify cls id len s = s) := by
  unfold classify
  split
  · exact .inl ⟨‹_›, rfl⟩
  · split
    · exact .inr (.inl ⟨‹_›, rfl⟩)
    · split
      · exact .inr (.inr (.inl ⟨‹_›, rfl⟩))
      · simp_all

/-- What a tick can do (R190). -/
theorem tick_cases (s : State) :
    (s.xstate = .sent ∧ s.dlEn = true ∧ s.dlCnt = 0#32 ∧ tick s = { s with xstate := .timedOut }) ∨
    (s.xstate = .sent ∧ s.dlEn = true ∧ s.dlCnt ≠ 0#32 ∧ tick s = { s with dlCnt := s.dlCnt - 1#32 }) ∨
    (¬(s.xstate = .sent ∧ s.dlEn = true) ∧ tick s = s) := by
  unfold tick
  split
  · split
    · exact .inl ⟨‹_ ∧ _›.1, ‹_ ∧ _›.2, ‹_›, rfl⟩
    · exact .inr (.inl ⟨‹_ ∧ _›.1, ‹_ ∧ _›.2, ‹_›, rfl⟩)
  · exact .inr (.inr ⟨‹_›, rfl⟩)

/-- The receive row run for a header is that header's classification (R182). -/
theorem runReceived_eq (cls id : Byte) (len : Half) (s : State) :
    runReceived cls id len s = classifyStep cls id len s := by
  unfold runReceived
  split
  · simp_all [execRxAckAck]
  · split
    · simp_all [execRxAckNak]
    · split
      · simp_all [execRxNav5Resp]
      · rfl

/-- The end of a frame: discarded by verification, or classified, and the parser is back at P_SYNC1 (R160, R161). -/
theorem rxComplete_sent {b : Byte} {s : State} (h : s.xstate = .sent) :
    rxComplete b s =
      .next (if s.verifyCk && !checkOk b s then { s with pstate := .sync1 }
        else classify s.rxCls s.rxId s.rxLen { s with pstate := .sync1 }) := by
  unfold rxComplete
  split
  · rfl
  · rw [runReceived_eq]
    exact classifyStep_sent h

/-- The positions before the end of a frame change the parser's registers only (R151 to R159). -/
theorem parser_frame (overlap : Bool) (b : Byte) (s : State) :
    SameButParser s (rxSearch b s) ∧ SameButParser s (rxSecondSync overlap b s) ∧ SameButParser s (rxClass b s) ∧
      SameButParser s (rxIdent b s) ∧ SameButParser s (rxLengthLow b s) ∧ SameButParser s (rxLengthHigh b s) ∧
      SameButParser s (rxPayload b s) ∧ SameButParser s (rxFirstCheck b s) := by
  refine ⟨rfl, ?_, rfl, rfl, rfl, rfl, rfl, rfl⟩
  unfold rxSecondSync SameButParser
  split <;> rfl

/-- A received byte in Sent: some rule of R151 to R159 changes the parser's registers only, or the frame ends (R150). -/
theorem receive_sent {b : Byte} {s : State} (h : s.xstate = .sent) :
    (s.pstate ≠ .ckB ∧ ∃ t, receive b s = .next t ∧ SameButParser s t ∧ t.inputs = s.inputs) ∨
    (s.pstate = .ckB ∧ receive b s = rxComplete b s) := by
  have hp := parser_frame Config.syncOverlap b s
  have hi : (rxSecondSync Config.syncOverlap b s).inputs = s.inputs := by
    unfold rxSecondSync; split <;> rfl
  cases hs : s.pstate <;> simp only [receive, receiveWith, h, hs, if_true]
  case ckB => simp
  all_goals refine .inl ⟨by simp, _, rfl, ?_, ?_⟩
  all_goals first | exact hp.1 | exact hp.2.1 | exact hp.2.2.1 | exact hp.2.2.2.1 | exact hp.2.2.2.2.1
                  | exact hp.2.2.2.2.2.1 | exact hp.2.2.2.2.2.2.1 | exact hp.2.2.2.2.2.2.2 | exact hi | rfl

/-! The step and runs of it. -/

theorem step_no_event {s : State} (h : s.inputs = []) : step s = .next s := by
  simp [step, stepEvent, h]

theorem step_event {s : State} {e : Event} {rest : List Event} (h : s.inputs = e :: rest) :
    step s = consume e { s with inputs := rest } := by
  simp [step, stepEvent, h]

theorem byte_and_ones (b : Byte) : b &&& 0xFF#8 = b := BitVec.and_allOnes

/-- A stream byte goes to the parser, through its row if it is a sync byte (R150). -/
theorem consume_rxByte (b : Byte) (s : State) : consume (.rxByte b) s = receive b s := by
  simp only [consume, decode]
  by_cases h1 : rowApplies 0xFF#8 0xB5#8 b = true
  · have : b = 0xB5#8 := by simpa [rowApplies, byte_and_ones] using h1
    subst this; rfl
  · by_cases h2 : rowApplies 0xFF#8 0x62#8 b = true
    · have : b = 0x62#8 := by simpa [rowApplies, byte_and_ones] using h2
      subst this; rfl
    · simp [h1, h2]

theorem run_succ {n : Nat} {s t : State} (h : step s = .next t) : run (n + 1) s = run n t := by
  simp [run, h]

theorem run_one (s : State) : run 1 s = step s := by
  unfold run
  cases step s <;> rfl

/-- A run of `m + n` steps is a run of `m`, then one of `n`. -/
theorem run_add {m : Nat} (n : Nat) {s t : State} (h : run m s = .next t) : run (m + n) s = run n t := by
  induction m generalizing s with
  | zero => simp only [run] at h; cases h; rw [Nat.zero_add]
  | succ m ih =>
    rw [Nat.succ_add]
    simp only [run] at h ⊢
    cases hs : step s with
    | next u => rw [hs] at h; exact ih h
    | fault r => rw [hs] at h; cases h
    | refused r => rw [hs] at h; cases h

/-! The decoder. -/

theorem commandWord_fields (op : BitVec 4) (a : Byte) (m : Half) :
    (commandWord op a m).extractLsb' 28 4 = op ∧ (commandWord op a m).extractLsb' 24 4 = 0#4 ∧
      (commandWord op a m).extractLsb' 16 8 = a ∧ (commandWord op a m).extractLsb' 0 16 = m := by
  refine ⟨?_, ?_, ?_, ?_⟩ <;>
  · apply BitVec.eq_of_getLsbD_eq
    intro i hi
    simp only [commandWord, BitVec.getLsbD_extractLsb', BitVec.getLsbD_append]
    interval_cases i <;> simp

theorem headerWord_bytes (cls id : Byte) (len : Half) :
    headerByte (headerWord cls id len) 2 = cls ∧ headerByte (headerWord cls id len) 3 = id ∧
      headerLen (headerWord cls id len) = len := by
  refine ⟨?_, ?_, ?_⟩ <;>
  · apply BitVec.eq_of_getLsbD_eq
    intro i hi
    simp only [headerWord, headerOf, headerByte, headerLen, le16, lo8, hi8, BitVec.getLsbD_extractLsb',
      BitVec.getLsbD_append]
    interval_cases i <;> simp

/-- The receive rows see a known header as a word that begins with the sync bytes (R92). -/
theorem headerWord_sync (cls id : Byte) (len : Half) :
    rowApplies 0xFFFF00000000#48 0xB56200000000#48 (headerWord cls id len) = true := by
  simp only [rowApplies, beq_iff_eq]
  apply BitVec.eq_of_getLsbD_eq
  intro i hi
  simp only [headerWord, headerOf, Config.sync1, Config.sync2, BitVec.getLsbD_and, BitVec.getLsbD_append]
  interval_cases i <;> simp

end Sys2Proof.Machine
end

