-- ==== Sys2Proof/Laws/PerInstr.lean ====
section
/-! SUPPORT. A family of per-instruction statements: the presented word of every well-formed instruction meets the mask and
the match of its own row of the opcode table (R92, R97, R104). -/

namespace Sys2Proof.Laws.RowOfEncoding

/-- A presented form meets a row's mask and match, both read as numbers of the row's width (R104). -/
def meets (mask pattern : Nat) : Presented → Prop
  | .command cw _ => rowApplies (BitVec.ofNat 32 mask) (BitVec.ofNat 32 pattern) cw = true
  | .transmit h _ => rowApplies (BitVec.ofNat 48 mask) (BitVec.ofNat 48 pattern) h = true
  | .receive h => rowApplies (BitVec.ofNat 48 mask) (BitVec.ofNat 48 pattern) h = true
  | .streamByte b => rowApplies (BitVec.ofNat 8 mask) (BitVec.ofNat 8 pattern) b = true
  | .micro _ => mask = 0 ∧ pattern = 0

/-- The mask and the match of each instruction's row of the opcode table. -/
def row : Instr → Nat × Nat
  | .txNav5Poll => (0xFFFFFFFFFFFF, 0xB56206240000)
  | .txNav5Set _ => (0xFFFFFFFFFFFF, 0xB56206242400)
  | .txCfgRst _ _ => (0xFFFFFFFFFFFF, 0xB56206040400)
  | .txRaw _ _ _ => (0xFFFF00000000, 0xB56200000000)
  | .rxAckAck _ => (0xFFFFFFFF0000, 0xB56205010000)
  | .rxAckNak _ => (0xFFFFFFFF0000, 0xB56205000000)
  | .rxNav5Resp _ => (0xFFFFFFFF0000, 0xB56206240000)
  | .rxOther _ _ _ => (0xFFFF00000000, 0xB56200000000)
  | .poll => (0xFFFFFFFF, 0x10000000)
  | .set _ => (0xFF00FFFF, 0x20000000)
  | .rstf _ _ => (0xFF000000, 0x30000000)
  | .rstc _ _ => (0xFF000000, 0x40000000)
  | .raw _ _ _ => (0xFF0000FF, 0x50000000)
  | .cwIllegal _ => (0, 0)
  | .rxSync1 => (0xFF, 0xB5)
  | .rxSync2 => (0xFF, 0x62)
  | .ckClr => (0, 0)
  | .ckAbs _ => (0, 0)

/-- The encoding of `i` meets its row. -/
def Statement (i : Instr) : Prop := meets (row i).1 (row i).2 (encode i)

/-- A receive header with the given class and id meets the 32-bit mask of its row, whatever its length (R92). -/
theorem headerWord_class_id (cls id : Byte) (len : Half) :
    headerWord cls id len &&& 0xFFFFFFFF0000#48 = Config.sync1 ++ Config.sync2 ++ cls ++ id ++ 0#16 := by
  apply BitVec.eq_of_getLsbD_eq
  intro i hi
  simp only [headerWord, headerOf, Config.sync1, Config.sync2, BitVec.getLsbD_and, BitVec.getLsbD_append]
  interval_cases i <;> simp

/-- A command word under the mask of its `op` and reserved bits (R96). -/
theorem commandWord_op (op : BitVec 4) (a : Byte) (m : Half) :
    commandWord op a m &&& 0xFF000000#32 = op ++ 0#28 := by
  apply BitVec.eq_of_getLsbD_eq
  intro i hi
  simp only [commandWord, BitVec.getLsbD_and, BitVec.getLsbD_append]
  interval_cases i <;> simp

/-- SET's word under its mask: the model is free (R97). -/
theorem commandWord_set (op : BitVec 4) (a : Byte) :
    commandWord op a 0#16 &&& 0xFF00FFFF#32 = op ++ 0#28 := by
  apply BitVec.eq_of_getLsbD_eq
  intro i hi
  simp only [commandWord, BitVec.getLsbD_and, BitVec.getLsbD_append]
  interval_cases i <;> simp

/-- RAW's word under its mask: class and id are free (R97). -/
theorem commandWord_raw (op : BitVec 4) (a id : Byte) :
    commandWord op a (id ++ 0#8) &&& 0xFF0000FF#32 = op ++ 0#28 := by
  apply BitVec.eq_of_getLsbD_eq
  intro i hi
  simp only [commandWord, BitVec.getLsbD_and, BitVec.getLsbD_append]
  interval_cases i <;> simp

theorem txNav5Poll : Statement .txNav5Poll :=
  show rowApplies 0xFFFFFFFFFFFF#48 0xB56206240000#48 (headerWord 0x06#8 0x24#8 0#16) = true by decide

theorem txNav5Set (model : Byte) : Statement (.txNav5Set model) :=
  show rowApplies 0xFFFFFFFFFFFF#48 0xB56206242400#48 (headerWord 0x06#8 0x24#8 36#16) = true by decide

theorem txCfgRst (t : Byte) (mask : Half) : Statement (.txCfgRst t mask) :=
  show rowApplies 0xFFFFFFFFFFFF#48 0xB56206040400#48 (headerWord 0x06#8 0x04#8 4#16) = true by decide

theorem txRaw (cls id : Byte) (payload : List Byte) : Statement (.txRaw cls id payload) :=
  Machine.headerWord_sync cls id _

theorem rxAckAck (len : Half) : Statement (.rxAckAck len) :=
  beq_iff_eq.mpr ((headerWord_class_id 0x05#8 0x01#8 len).trans (by simp only [row]; decide))

theorem rxAckNak (len : Half) : Statement (.rxAckNak len) :=
  beq_iff_eq.mpr ((headerWord_class_id 0x05#8 0x00#8 len).trans (by simp only [row]; decide))

theorem rxNav5Resp (len : Half) : Statement (.rxNav5Resp len) :=
  beq_iff_eq.mpr ((headerWord_class_id 0x06#8 0x24#8 len).trans (by simp only [row]; decide))

theorem rxOther (cls id : Byte) (len : Half) : Statement (.rxOther cls id len) :=
  Machine.headerWord_sync cls id len

theorem poll : Statement .poll :=
  show rowApplies 0xFFFFFFFF#32 0x10000000#32 (commandWord 1#4 0#8 0#16) = true by decide

theorem set (model : Byte) : Statement (.set model) :=
  beq_iff_eq.mpr ((commandWord_set 2#4 model).trans (by simp only [row]; decide))

theorem rstf (t : Byte) (mask : Half) : Statement (.rstf t mask) :=
  beq_iff_eq.mpr ((commandWord_op 3#4 t mask).trans (by simp only [row]; decide))

theorem rstc (t : Byte) (mask : Half) : Statement (.rstc t mask) :=
  beq_iff_eq.mpr ((commandWord_op 4#4 t mask).trans (by simp only [row]; decide))

theorem raw (cls id : Byte) (payload : List Byte) : Statement (.raw cls id payload) :=
  beq_iff_eq.mpr ((commandWord_raw 5#4 cls id).trans (by simp only [row]; decide))

theorem cwIllegal (cw : Word) : Statement (.cwIllegal cw) :=
  show rowApplies 0#32 0#32 cw = true by simp [rowApplies]

theorem rxSync1 : Statement .rxSync1 := show rowApplies 0xFF#8 0xB5#8 0xB5#8 = true by decide

theorem rxSync2 : Statement .rxSync2 := show rowApplies 0xFF#8 0x62#8 0x62#8 = true by decide

theorem ckClr : Statement .ckClr := ⟨rfl, rfl⟩

theorem ckAbs (b : Byte) : Statement (.ckAbs b) := ⟨rfl, rfl⟩

end Sys2Proof.Laws.RowOfEncoding
end

