-- ==== Sys2Proof/Tests/Slice0.lean ====
section
/-! SUPPORT. The model's own tests. Expected values come from the spec (95_test_vectors.md, the encodings of R92 and R97);
none is the model's own answer. The last part gives, for every statement that has hypotheses, a state and operands that
meet them. -/

namespace Sys2Proof.Tests

open Sys2Proof
open Sys2Proof.Machine

/-! ## Small states -/

/-- Reset with `TICK_HZ` = 1000, as the test vectors take it. -/
def start : State := State.resetFor 1000

/-- The exchange of `set 6` after reset: it waits for ACK or NAK naming (0x06, 0x24) (R215). -/
def setSent : State :=
  { start with
    xstate := .sent, reqCls := 0x06#8, reqId := 0x24#8, wantAck := true, dlEn := true, dlCnt := 2000#32 }

/-- The exchange of `poll` after reset (R214). -/
def pollSent : State :=
  { start with
    xstate := .sent, reqCls := 0x06#8, reqId := 0x24#8, wantResp := true, expCls := 0x06#8, expId := 0x24#8 }

/-- A transport failure (R232). -/
def failedState : State := { start with xstate := .failed, err := .eXport }

/-- A state with the given parser position and next byte. -/
def atByte (p : PState) (b : Byte) (s : State) : State := { s with pstate := p, inputs := [.rxByte b] }

/-- A state with the bytes of the receive stream waiting. -/
def fed (bytes : List Byte) (s : State) : State := { s with inputs := bytes.map .rxByte }

/-- The next state of an outcome. -/
def after (o : Host.Outcome State Fault Refusal) : Option State :=
  match o with
  | .next s => some s
  | .fault _ => none
  | .refused _ => none

/-- ACK24 of the test vectors. -/
def ack24 : List Byte := [0xB5#8, 0x62#8, 0x05#8, 0x01#8, 0x02#8, 0x00#8, 0x06#8, 0x24#8, 0x32#8, 0x5B#8]

/-- ACK24 with a wrong second checksum byte (program P4). -/
def ack24Bad : List Byte := [0xB5#8, 0x62#8, 0x05#8, 0x01#8, 0x02#8, 0x00#8, 0x06#8, 0x24#8, 0x32#8, 0x5A#8]

/-- NAVX of the test vectors, an unrelated frame. -/
def navx : List Byte :=
  [0xB5#8, 0x62#8, 0x01#8, 0x07#8, 0x04#8, 0x00#8, 0xDE#8, 0xAD#8, 0xBE#8, 0xEF#8, 0x44#8, 0x3B#8]

/-- RESP6 of the test vectors. -/
def resp6 : List Byte := [0xB5#8, 0x62#8, 0x06#8, 0x24#8, 0x03#8, 0x00#8, 0x00#8, 0x00#8, 0x06#8, 0x33#8, 0x17#8]

/-! ## WellFormed refuses what no word stands for -/

theorem test_wf_refuses_other_that_is_ack : (Instr.rxOther 0x05#8 0x01#8 2#16).wf = false := by decide
theorem test_wf_refuses_other_that_is_nak : (Instr.rxOther 0x05#8 0x00#8 2#16).wf = false := by decide
theorem test_wf_refuses_other_that_is_response : (Instr.rxOther 0x06#8 0x24#8 3#16).wf = false := by decide
theorem test_wf_refuses_raw_that_is_poll : (Instr.txRaw 0x06#8 0x24#8 []).wf = false := by decide
theorem test_wf_refuses_raw_that_is_set : (Instr.txRaw 0x06#8 0x24#8 (List.replicate 36 0#8)).wf = false := by decide
theorem test_wf_refuses_raw_that_is_reset : (Instr.txRaw 0x06#8 0x04#8 [0#8, 0#8, 0#8, 0#8]).wf = false := by decide
theorem test_wf_refuses_raw_too_long : (Instr.txRaw 0x12#8 0x34#8 (List.replicate 65536 0#8)).wf = false := by
  simp only [Instr.wf, Config.maxPayload, List.length_replicate]; decide
theorem test_wf_refuses_illegal_that_is_set : (Instr.cwIllegal 0x20060000#32).wf = false := by decide
theorem test_wf_refuses_illegal_that_is_raw : (Instr.cwIllegal 0x50ABCD00#32).wf = false := by decide
theorem test_wf_takes_reserved_bits : (Instr.cwIllegal 0x21060000#32).wf = true := by decide

/-! ## Words written from the encodings of R92, R97 and R104 -/

theorem test_decode_txNav5Poll : decodeBytes .transmit [0xB5#8, 0x62#8, 0x06#8, 0x24#8, 0x00#8, 0x00#8] = .ok .txNav5Poll := by
  decide
theorem test_decode_txNav5Set :
    decodeBytes .transmit [0xB5#8, 0x62#8, 0x06#8, 0x24#8, 0x24#8, 0x00#8, 0x63#8] = .ok (.txNav5Set 99#8) := by decide
theorem test_decode_txCfgRst :
    decodeBytes .transmit [0xB5#8, 0x62#8, 0x06#8, 0x04#8, 0x04#8, 0x00#8, 0x02#8, 0x01#8, 0x01#8] =
      .ok (.txCfgRst 0x01#8 0x0102#16) := by decide
theorem test_decode_txRaw :
    decodeBytes .transmit [0xB5#8, 0x62#8, 0xAB#8, 0xCD#8, 0x01#8, 0x00#8, 0x01#8] = .ok (.txRaw 0xAB#8 0xCD#8 [0x01#8]) := by
  decide
theorem test_decode_rxAckAck :
    decodeBytes .receive [0xB5#8, 0x62#8, 0x05#8, 0x01#8, 0x02#8, 0x00#8] = .ok (.rxAckAck 2#16) := by decide
theorem test_decode_rxAckNak :
    decodeBytes .receive [0xB5#8, 0x62#8, 0x05#8, 0x00#8, 0x02#8, 0x00#8] = .ok (.rxAckNak 2#16) := by decide
theorem test_decode_rxNav5Resp :
    decodeBytes .receive [0xB5#8, 0x62#8, 0x06#8, 0x24#8, 0x24#8, 0x00#8] = .ok (.rxNav5Resp 36#16) := by decide
theorem test_decode_rxOther :
    decodeBytes .receive [0xB5#8, 0x62#8, 0x0A#8, 0x04#8, 0x00#8, 0x01#8] = .ok (.rxOther 0x0A#8 0x04#8 256#16) := by decide
theorem test_decode_poll : decode (.command 0x10000000#32 []) = .ok .poll := by decide
theorem test_decode_set : decode (.command 0x20630000#32 []) = .ok (.set 99#8) := by decide
theorem test_decode_rstf : decode (.command 0x3001FFFF#32 []) = .ok (.rstf 0x01#8 0xFFFF#16) := by decide
theorem test_decode_rstc : decode (.command 0x4001FFFF#32 []) = .ok (.rstc 0x01#8 0xFFFF#16) := by decide
theorem test_decode_raw : decode (.command 0x50ABCD00#32 [0x01#8]) = .ok (.raw 0xAB#8 0xCD#8 [0x01#8]) := by decide
/-- The illegal words of table V5. -/
def illegalWords : List Word :=
  [0x60000000#32, 0x00000000#32, 0xF0000000#32, 0x11000000#32, 0x10000001#32, 0x10010000#32, 0x20060001#32, 0x21060000#32,
    0x50ABCD01#32]

theorem test_decode_cwIllegal :
    illegalWords.map (fun cw => decodeCommand cw []) = illegalWords.map .cwIllegal := by decide
theorem test_decode_rxSync1 : decode (.streamByte 0xB5#8) = .ok .rxSync1 := by decide
theorem test_decode_rxSync2 : decode (.streamByte 0x62#8) = .ok .rxSync2 := by decide
theorem test_decode_ckClr : decode (.micro none) = .ok .ckClr := by decide
theorem test_decode_ckAbs : decode (.micro (some 0x06#8)) = .ok (.ckAbs 0x06#8) := by decide

theorem test_decode_rejects_bad_sync :
    decodeBytes .receive [0xB5#8, 0x63#8, 0x05#8, 0x01#8, 0x02#8, 0x00#8] = .error .badSync := by decide
theorem test_decode_rejects_short_header : decodeBytes .receive [0xB5#8, 0x62#8, 0x05#8] = .error .truncated := by decide
theorem test_decode_rejects_missing_operand :
    decodeBytes .transmit [0xB5#8, 0x62#8, 0x06#8, 0x24#8, 0x24#8, 0x00#8] = .error .operandCount := by decide
theorem test_decode_rejects_other_byte : decode (.streamByte 0x24#8) = .error .notASyncByte := by decide

/-- Within the command rows no two patterns overlap (R97). -/
theorem test_command_rows_do_not_overlap :
    [(0xFFFFFFFF#32, 0x10000000#32), (0xFF00FFFF#32, 0x20000000#32), (0xFF000000#32, 0x30000000#32),
      (0xFF000000#32, 0x40000000#32), (0xFF0000FF#32, 0x50000000#32)].Pairwise
      (fun (r q : BitVec 32 × BitVec 32) => r.1 &&& q.1 &&& r.2 ≠ r.1 &&& q.1 &&& q.2) := by decide

/-! ## The checksum and the frame functions (tables V1, V2) -/

theorem test_checksum_wraps : computeChecksum [0xFF#8, 0xFF#8, 0xFF#8] = (0xFD#8, 0xFA#8) := by decide
theorem test_checksum_order :
    computeChecksum [1#8, 2#8, 3#8, 4#8] = (0x0A#8, 0x14#8) ∧ computeChecksum [4#8, 3#8, 2#8, 1#8] = (0x0A#8, 0x1E#8) := by
  decide
theorem test_assemble_sync_in_payload :
    assembleFrame 0x12#8 0x34#8 [0xB5#8, 0x62#8] =
      some [0xB5#8, 0x62#8, 0x12#8, 0x34#8, 0x02#8, 0x00#8, 0xB5#8, 0x62#8, 0x5F#8, 0x44#8] := by decide
theorem test_decode_frame_one_short :
    decodeFrame [0xB5#8, 0x62#8, 0xAB#8, 0xCD#8, 0x01#8, 0x00#8, 0x01#8, 0x7A#8] = none := by decide
theorem test_decode_frame_bad_checksum :
    decodeFrame [0xB5#8, 0x62#8, 0xAB#8, 0xCD#8, 0x01#8, 0x00#8, 0x01#8, 0x00#8, 0x00#8] =
        some { cls := 0xAB#8, id := 0xCD#8, length := 1, payload := [0x01#8], ckA := 0x00#8, ckB := 0x00#8 } ∧
      wellFormedFrame [0xB5#8, 0x62#8, 0xAB#8, 0xCD#8, 0x01#8, 0x00#8, 0x01#8, 0x00#8, 0x00#8] = false := by decide

/-! ## One step of each instruction (tables V2 to V5) -/

theorem test_txNav5Poll :
    (after (exec .txNav5Poll start)).map State.tx =
      some [0xB5#8, 0x62#8, 0x06#8, 0x24#8, 0x00#8, 0x00#8, 0x2A#8, 0x84#8] := by decide
theorem test_txNav5Set :
    (after (exec (.txNav5Set 99#8) start)).map (fun s => s.tx.drop 42) = some [0xB4#8, 0x50#8] := by decide
theorem test_txCfgRst :
    (after (exec (.txCfgRst 0xFF#8 0x8000#16) start)).map State.tx =
      some [0xB5#8, 0x62#8, 0x06#8, 0x04#8, 0x04#8, 0x00#8, 0x00#8, 0x80#8, 0xFF#8, 0x00#8, 0x8D#8, 0xE2#8] := by decide
theorem test_txRaw :
    (after (exec (.txRaw 0xFF#8 0xFF#8 [0xFF#8, 0xFF#8]) start)).map State.tx =
      some [0xB5#8, 0x62#8, 0xFF#8, 0xFF#8, 0x02#8, 0x00#8, 0xFF#8, 0xFF#8, 0xFE#8, 0xFA#8] := by decide
theorem test_poll :
    (after (exec .poll start)).map (fun s => (s.tx, statusWord s)) =
      some ([0xB5#8, 0x62#8, 0x06#8, 0x24#8, 0x00#8, 0x00#8, 0x2A#8, 0x84#8], 0x00000081#32) := by decide
theorem test_set :
    (after (exec (.set 3#8) start)).map (fun s => (s.tx.drop 42, statusWord s, s.dlCnt)) =
      some ([0x54#8, 0x90#8], 0x00000481#32, 2000#32) := by decide
theorem test_set_failed_write :
    (after (exec (.set 6#8) { start with draw := ⟨false, 5⟩ })).map (fun s => (s.tx, statusWord s, errWord s)) =
      some ([0xB5#8, 0x62#8, 0x06#8, 0x24#8, 0x24#8], 0x00000106#32, 2#32) := by decide
theorem test_rstf :
    (after (exec (.rstf 0x04#8 0x0001#16) { start with xstate := .acked })).map
        (fun s => (s.tx, s.xstate, resultWord s)) =
      some ([0xB5#8, 0x62#8, 0x06#8, 0x04#8, 0x04#8, 0x00#8, 0x01#8, 0x00#8, 0x04#8, 0x00#8, 0x13#8, 0x70#8], .idle, 0#32) := by
  decide
theorem test_rstc :
    (after (exec (.rstc 0x00#8 0x0000#16) start)).map (fun s => (s.tx, s.reqId, s.xstate)) =
      some ([0xB5#8, 0x62#8, 0x06#8, 0x04#8, 0x04#8, 0x00#8, 0x00#8, 0x00#8, 0x00#8, 0x00#8, 0x0E#8, 0x64#8], 0x04#8, .sent) := by
  decide
theorem test_raw :
    (after (exec (.raw 0xAB#8 0xCD#8 [0x01#8]) start)).map (fun s => (s.tx, s.xstate)) =
      some ([0xB5#8, 0x62#8, 0xAB#8, 0xCD#8, 0x01#8, 0x00#8, 0x01#8, 0x7A#8, 0x8F#8], .idle) := by decide
theorem test_cwIllegal :
    (after (exec (.cwIllegal 0x60000000#32) start)).map (fun s => (errWord s, s.xstate, s.tx)) = some (3#32, .idle, []) := by
  decide
/-- ACK of length 3 is accepted; ACK naming (0x06, 0x04) is not (table V4). -/
theorem test_rxAckAck :
    (after (exec (.rxAckAck 3#16) { setSent with rxP0 := 0x06#8, rxP1 := 0x24#8 })).map statusWord = some 0x00000502#32 ∧
      (after (exec (.rxAckAck 2#16) { setSent with rxP0 := 0x06#8, rxP1 := 0x04#8 })).map statusWord =
        some 0x00000481#32 := by decide
theorem test_rxAckNak :
    (after (exec (.rxAckNak 2#16) { setSent with rxP0 := 0x06#8, rxP1 := 0x24#8 })).map
        (fun s => (statusWord s, resultWord s)) = some (0x00000503#32, 2#32) := by decide
/-- RESP99 and RESP2 (tables S5, V4). -/
theorem test_rxNav5Resp :
    (after (exec (.rxNav5Resp 3#16) { pollSent with rxP2 := 0x63#8 })).map (fun s => (statusWord s, s.model)) =
        some (0x00000304#32, some 0x63#8) ∧
      (after (exec (.rxNav5Resp 2#16) { pollSent with rxP2 := 0x63#8 })).map (fun s => (statusWord s, s.model)) =
        some (0x00000104#32, none) := by decide
theorem test_rxOther :
    (after (exec (.rxOther 0x01#8 0x07#8 4#16) setSent)).map statusWord = some 0x00000481#32 := by decide
theorem test_rxSync1 :
    (after (exec .rxSync1 { setSent with pstate := .sync2 })).map State.pstate = some .sync2 ∧
      after (exec .rxSync1 start) = none := by decide
theorem test_rxSync2 :
    (after (exec .rxSync2 { setSent with pstate := .sync2, rxCkA := 0x57#8, rxCkB := 0xF6#8 })).map
        (fun s => (s.pstate, s.rxCkA, s.rxCkB)) = some (.cls, 0x00#8, 0x00#8) ∧
      (after (exec .rxSync2 setSent)).map State.pstate = some .sync1 := by decide
theorem test_ckClr :
    (after (exec .ckClr { start with rxCkA := 0x57#8, rxCkB := 0xF6#8 })).map (fun s => (s.rxCkA, s.rxCkB)) =
      some (0#8, 0#8) := by decide
theorem test_ckAbs :
    (after (exec (.ckAbs 0x01#8) { start with rxCkA := 0xFF#8, rxCkB := 0x10#8 })).map (fun s => (s.rxCkA, s.rxCkB)) =
        some (0x00#8, 0x10#8) ∧
      (after (exec (.ckAbs 0xFF#8) { start with rxCkA := 0xFF#8, rxCkB := 0xFF#8 })).map (fun s => (s.rxCkA, s.rxCkB)) =
        some (0xFE#8, 0xFD#8) := by decide

/-! ## One step of each other event -/

/-- The last byte of ACK24 in the trace of R164. -/
theorem test_step_completes_ack :
    (after (step { atByte .ckB 0x5B#8 setSent with
        rxCls := 0x05#8, rxId := 0x01#8, rxLen := 2#16, rxP0 := 0x06#8, rxP1 := 0x24#8, rxCkA := 0x32#8, rxCkB := 0x5B#8
        rxCkaRecv := 0x32#8 })).map (fun s => (s.xstate, s.pstate)) = some (.acked, .sync1) := by decide
/-- With verification on, the wrong last byte of program P4 leaves the exchange open. -/
theorem test_step_discards_bad_checksum :
    (after (step { atByte .ckB 0x5A#8 setSent with
        verifyCk := true, rxCls := 0x05#8, rxId := 0x01#8, rxLen := 2#16, rxP0 := 0x06#8, rxP1 := 0x24#8, rxCkA := 0x32#8
        rxCkB := 0x5B#8, rxCkaRecv := 0x32#8 })).map statusWord = some 0x00000481#32 := by decide
/-- `B5 00` of table V3: back to P_SYNC1. -/
theorem test_step_second_sync_missed :
    (after (step (atByte .sync2 0x00#8 setSent))).map State.pstate = some .sync1 := by decide
theorem test_step_tick_times_out :
    (after (step { setSent with dlCnt := 0#32, inputs := [.tick] })).map (fun s => (statusWord s, resultWord s)) =
      some (0x00000505#32, 3#32) := by decide
theorem test_step_rxfail_mid_frame :
    (after (step { setSent with pstate := .ident, inputs := [.rxFail] })).map statusWord = some 0x0000051E#32 := by decide
theorem test_step_cfg_ctrl :
    (after (step { start with inputs := [.cfgWr 0 0xFFFFFFFF#32] })).map ctrlWord = some 3#32 := by decide
theorem test_step_reset :
    (after (step { setSent with pstate := .len0, inputs := [.reset] })).map (fun s => (statusWord s, ctrlWord s, errWord s)) =
      some (0#32, 0#32, 0#32) := by decide
theorem test_reset_tmo_ack : start.tmoAck = 2000#32 ∧ statusWord start = 0#32 := by decide
theorem test_model_name : modelName 6#8 = "Airborne <1g" ∧ modelName 99#8 = "Unknown" := by decide
theorem test_notation_set : lineEvents (.command (.set 6#8)) = [.cmd 0x20060000#32 [] true 0] := by decide
theorem test_notation_ack : lineEvents (.rxAck 0x06#8 0x24#8) = ack24.map .rxByte := by decide

/-! ## Table words: what the decoder reads from them and where they are placed -/

theorem test_table_word_rows :
    decodeTableWord 48 0xB56206240000 = some .txNav5Poll ∧ decodeTableWord 48 0xB56206242400 = some (.txNav5Set 0#8) ∧
      decodeTableWord 48 0xB56206040400 = some (.txCfgRst 0#8 0#16) ∧
      decodeTableWord 48 0xB56201070100 = some (.txRaw 0x01#8 0x07#8 [0#8]) ∧
      decodeTableWord 48 0xB56205010200 = some (.rxAckAck 2#16) ∧
      decodeTableWord 48 0xB56205000200 = some (.rxAckNak 2#16) ∧
      decodeTableWord 48 0xB56206240300 = some (.rxNav5Resp 3#16) ∧ decodeTableWord 0 0 = some .ckClr := by decide
theorem test_fetch_word_command :
    (after (step (start.withFetchWord 32 0x60000000))).map (fun s => (errWord s, s.inputs)) = some (3#32, []) := by decide
theorem test_fetch_word_received :
    fetched (start.withFetchWord 48 0xB56205010200) = some (.receive 0xB56205010200#48) := by decide

/-- From reset, the step of a transmit word does what the row does: the row's frame goes out, and no exchange opens. -/
theorem test_fetch_word_transmit_poll : step (start.withFetchWord 48 0xB56206240000) = exec .txNav5Poll start := by rfl
theorem test_fetch_word_transmit_set : step (start.withFetchWord 48 0xB56206242400) = exec (.txNav5Set 0#8) start := by rfl
theorem test_fetch_word_transmit_reset :
    step (start.withFetchWord 48 0xB56206040400) = exec (.txCfgRst 0#8 0#16) start := by rfl

/-! ## Witnesses: a state and operands that meet the hypotheses of each statement -/

theorem witness_ResetEventGivesTheResetValues :
    ({ setSent with inputs := [.reset, .tick] } : State).inputs = .reset :: [.tick] := by decide

theorem witness_EveryStepKeepsInvariant :
    StateInv { atByte .sync1 0xB5#8 setSent with dlEn := true } ∧
      step (atByte .sync1 0xB5#8 setSent) = .next { setSent with pstate := .sync2 } := ⟨by decide, rfl⟩

/-- Commands and configuration writes with and without a step, received bytes and failures likewise. -/
theorem witness_TransitionTableIsComplete :
    ({ start with inputs := [.cmd 0x10000000#32 [] true 0] } : State).xstate = .idle ∧
      ({ setSent with inputs := [.cmd 0x10000000#32 [] true 0] } : State).xstate = .sent ∧
      ({ failedState with inputs := [.cfgWr 1 7#32] } : State).xstate ≠ .sent ∧ failedState.xstate ≠ .sent ∧
      ({ setSent with inputs := [.rxFail] } : State).xstate = .sent := by decide

theorem witness_StepRunsTheDecodedInstruction :
    decode (.command 0x20060000#32 []) = .ok (.set 6#8) ∧ decode (.streamByte 0x62#8) = .ok .rxSync2 ∧
      (atByte .ckB 0x5B#8 setSent).pstate = .ckB ∧
      fetched { atByte .ckB 0x5B#8 setSent with rxCls := 0x05#8, rxId := 0x01#8, rxLen := 2#16 } =
        some (.receive 0xB56205010200#48) ∧
      decode (.receive 0xB56205010200#48) = .ok (.rxAckAck 2#16) ∧
      (atByte .sync2 0x00#8 setSent).inputs = .rxByte 0x00#8 :: [] := by decide

theorem witness_SyncRowsTakeTheirByte : setSent.xstate = .sent := by decide

theorem witness_TransmitStreamOnlyGrows :
    step { start with inputs := [.cmd 0x60000000#32 [] true 0] } = .next { start with err := .eOp } ∧
      step { setSent with inputs := [.tick] } = .next { setSent with dlCnt := 1999#32 } := ⟨rfl, rfl⟩

theorem witness_ConfigurationConstantInExchange :
    setSent.xstate = .sent ∧ step { setSent with inputs := [.tick] } = .next { setSent with dlCnt := 1999#32 } := ⟨rfl, rfl⟩

theorem witness_FailedIsLeftOnlyByReset :
    failedState.xstate = .failed ∧ Event.reset ∉ ([.tick] : List Event).take 1 ∧
      run 1 { failedState with inputs := [.tick] } = .next failedState := ⟨rfl, by decide, rfl⟩

theorem witness_UnspecifiedRegistersStayInvisible :
    start.xstate ≠ .sent ∧ SameButUnspecified start { start with rxP0 := 0x77#8, expCls := 0x05#8, dlCnt := 9#32 } :=
  ⟨by decide, rfl⟩

/-- The hypotheses of the completion statements of the commands and of the transmit rows. -/
theorem witness_commands_complete :
    (∀ x ∈ [XState.idle, .acked, .naked, .responded, .timedOut],
      ({ start with xstate := x } : State).xstate ≠ .sent ∧ ({ start with xstate := x } : State).xstate ≠ .failed) ∧
      start.draw.txok = true := by decide

theorem witness_RawSendsAndIsIdle :
    start.xstate ≠ .sent ∧ start.xstate ≠ .failed ∧ start.draw.txok = true ∧ (List.replicate 65535 0#8 : List Byte).length ≤ 65535 := by
  simp only [List.length_replicate]; decide

theorem witness_RawTooLongRaisesLengthError :
    start.xstate ≠ .sent ∧ start.xstate ≠ .failed ∧ 65535 < (List.replicate 65536 0#8 : List Byte).length := by
  simp only [List.length_replicate]; decide

theorem witness_IllegalWordRaisesOperationError :
    ({ start with xstate := .timedOut } : State).xstate ≠ .sent ∧ ({ start with xstate := .timedOut } : State).xstate ≠ .failed := by
  decide

theorem witness_FailedWriteEndsInFailed :
    start.xstate ≠ .sent ∧ start.xstate ≠ .failed ∧ ({ start with draw := ⟨false, 100⟩ } : State).draw.txok = false ∧
      (assembleFrame 0x06#8 0x24#8 []).isSome = true ∧
      (assembleFrame 0x06#8 0x24#8 ([0x01#8, 0x00#8, 6#8, 0x02#8] ++ List.replicate 32 0x00#8)).isSome = true ∧
      (assembleFrame 0x06#8 0x04#8 [0xFF#8, 0xFF#8, 0x01#8, 0x00#8]).isSome = true ∧
      (assembleFrame 0xAB#8 0xCD#8 [0x01#8]).isSome = true := by decide

theorem witness_InstructionsRefusedWhenNotEnabled :
    (setSent.xstate = .sent ∧ failedState.xstate = .failed) ∧ start.xstate ≠ .sent := by decide

theorem witness_ReservedWordsAreExactlyIllegal :
    decodeCommand 0x20060000#32 [] ≠ .cwIllegal 0x20060000#32 ∧ decodeCommand 0x20060001#32 [] = .cwIllegal 0x20060001#32 := by
  decide

theorem witness_TransmitRowsSendTheirFrame :
    start.xstate ≠ .sent ∧ start.xstate ≠ .failed ∧ start.draw.txok = true ∧
      assembleFrame 0xAB#8 0xCD#8 [0x01#8] =
        some [0xB5#8, 0x62#8, 0xAB#8, 0xCD#8, 0x01#8, 0x00#8, 0x01#8, 0x7A#8, 0x8F#8] := by decide

theorem witness_TransmitRowsFail :
    (start.xstate ≠ .sent ∧ start.xstate ≠ .failed ∧ ({ start with draw := ⟨false, 3⟩ } : State).draw.txok = false ∧ (assembleFrame 0x06#8 0x24#8 []).isSome = true) ∧
      65535 < (List.replicate 65536 0#8 : List Byte).length := by
  simp only [List.length_replicate]; decide

theorem witness_AssembledFrameShape :
    assembleFrame 0xAB#8 0xCD#8 [0x01#8] =
      some [0xB5#8, 0x62#8, 0xAB#8, 0xCD#8, 0x01#8, 0x00#8, 0x01#8, 0x7A#8, 0x8F#8] := by decide

theorem witness_DecodingAnAssembledFrameRecoversIt : (List.replicate 65535 0#8 : List Byte).length ≤ 65535 := by
  simp only [List.length_replicate]; decide

theorem witness_AssembledFramesAreWellFormed :
    assembleFrame 0x06#8 0x24#8 [] = some [0xB5#8, 0x62#8, 0x06#8, 0x24#8, 0x00#8, 0x00#8, 0x2A#8, 0x84#8] ∧
      [0xB5#8, 0x62#8, 0x06#8, 0x24#8, 0x00#8, 0x00#8, 0x2A#8, 0x84#8].take 6 ++ [0x2A#8, 0x85#8] ≠
        [0xB5#8, 0x62#8, 0x06#8, 0x24#8, 0x00#8, 0x00#8, 0x2A#8, 0x84#8] := by decide

theorem witness_SyncDetector :
    setSent.xstate = .sent ∧ setSent.pstate = .sync1 ∧ ({ setSent with pstate := .sync2 } : State).pstate = .sync2 ∧
      0x61#8 ≠ 0x62#8 ∧ 0xB5#8 ≠ 0x62#8 ∧ ¬(0x61#8 = 0xB5#8 ∧ true = true) ∧ 0xB4#8 ≠ 0xB5#8 := by decide

theorem witness_SyncBytesArmAndMatch :
    setSent.xstate = .sent ∧ setSent.pstate = .sync1 ∧ ({ setSent with pstate := .sync2 } : State).pstate = .sync2 := by
  decide

theorem witness_HeaderPositions :
    ∀ p ∈ [PState.cls, PState.ident, PState.len0, PState.len1],
      (atByte p 0xFF#8 setSent).xstate = .sent ∧ (atByte p 0xFF#8 setSent).inputs = .rxByte 0xFF#8 :: [] ∧
        (atByte p 0xFF#8 setSent).pstate = p := by decide

theorem witness_PayloadPosition :
    (atByte .payload 0x62#8 setSent).xstate = .sent ∧ (atByte .payload 0x62#8 setSent).pstate = .payload ∧
      (atByte .payload 0x62#8 setSent).inputs = .rxByte 0x62#8 :: [] := by decide

theorem witness_ChecksumPositions :
    ∀ p ∈ [PState.ckA, PState.ckB],
      (atByte p 0x01#8 setSent).xstate = .sent ∧ (atByte p 0x01#8 setSent).pstate = p ∧
        ({ setSent with verifyCk := true } : State).verifyCk = true ∧
        ¬(setSent.rxCkaRecv = setSent.rxCkA ∧ 0x01#8 = setSent.rxCkB) ∧
        (setSent.rxCkaRecv = setSent.rxCkA ∧ 0x00#8 = setSent.rxCkB) ∧ setSent.verifyCk = false := by decide

theorem witness_ParserAgreesWithDecodeFrame :
    (decodeFrame ack24).isSome = true ∧ wellFormedFrame ack24 = true ∧ (fed ack24 setSent).xstate = .sent ∧
      (fed ack24 setSent).pstate = .sync1 ∧ (fed ack24 setSent).inputs = ack24.map .rxByte ++ [] := by decide

theorem witness_BadChecksumFrameIsSkipped :
    (decodeFrame ack24Bad).isSome = true ∧ wellFormedFrame ack24Bad = false ∧
      (fed ack24Bad { setSent with verifyCk := true }).verifyCk = true ∧
      (fed ack24Bad { setSent with verifyCk := true }).xstate = .sent ∧
      (fed ack24Bad { setSent with verifyCk := true }).pstate = .sync1 ∧
      (fed ack24Bad { setSent with verifyCk := true }).inputs = ack24Bad.map .rxByte ++ [] := by decide

/-- Every branch of the three classifications is reached: accepted, expected as a response, discarded. -/
theorem witness_AckFrameClassification :
    setSent.xstate = .sent ∧
      (setSent.wantAck = true ∧ 2 ≤ (2#16 : Half).toNat ∧
        ({ setSent with rxP0 := 0x06#8, rxP1 := 0x24#8 } : State).rxP0 = setSent.reqCls ∧
        ({ setSent with rxP0 := 0x06#8, rxP1 := 0x24#8 } : State).rxP1 = setSent.reqId) ∧
      ¬(2 ≤ (1#16 : Half).toNat) := by decide

theorem witness_ResponseFrameClassification :
    pollSent.xstate = .sent ∧ pollSent.wantResp = true ∧ pollSent.expCls = 0x06#8 ∧ pollSent.expId = 0x24#8 ∧
      (2 ≤ (2#16 : Half).toNat ∧ ¬ 3 ≤ (2#16 : Half).toNat) ∧ 3 ≤ (3#16 : Half).toNat := by decide

theorem witness_OtherFrameIsDiscarded :
    setSent.xstate = .sent ∧ PendingLegal setSent ∧ PendingLegal pollSent ∧ ¬(0x05#8 = 0x05#8 ∧ (0x02#8 = 0x01#8 ∨ 0x02#8 = 0x00#8)) ∧
      ¬(0x05#8 = 0x06#8 ∧ 0x02#8 = 0x24#8) := by decide

/-- Text noise, 0xB5 before other bytes, and an unrelated frame. -/
def noisePieces : List (List Byte) :=
  [[0x24#8, 0x47#8, 0x50#8, 0x0D#8, 0x0A#8], [0xB5#8, 0x00#8, 0xB5#8, 0xB5#8, 0x61#8], navx]

/-- The noise of program P1 and more, then the acknowledgement. -/
theorem witness_AckFoundBehindNoise :
    (fed (noisePieces.flatten ++ ack24) setSent).xstate = .sent ∧ setSent.pstate = .sync1 ∧ setSent.wantAck = true ∧
      (∀ bytes ∈ noisePieces, Noise setSent bytes) ∧
      assembleFrame 0x05#8 0x01#8 [setSent.reqCls, setSent.reqId] = some ack24 := by
  refine ⟨by decide, by decide, by decide, ?_, by decide⟩
  intro bytes hbytes
  simp only [noisePieces, List.mem_cons, List.not_mem_nil, or_false] at hbytes
  rcases hbytes with rfl | rfl | rfl
  · refine .inl ⟨fun i => ?_, by decide⟩
    rcases i with _ | _ | _ | _ | _ | i <;> simp
  · refine .inl ⟨fun i => ?_, by decide⟩
    rcases i with _ | _ | _ | _ | _ | i <;> simp
  · exact .inr ⟨{ cls := 0x01#8, id := 0x07#8, length := 4, payload := [0xDE#8, 0xAD#8, 0xBE#8, 0xEF#8], ckA := 0x44#8,
                  ckB := 0x3B#8 }, by decide, .inl (by unfold Unmatched; decide)⟩

/-- A frame that names the request but is discarded by verification is noise too. -/
theorem witness_AckFoundBehindNoise_discarded : Noise { setSent with verifyCk := true } ack24Bad :=
  .inr ⟨{ cls := 0x05#8, id := 0x01#8, length := 2, payload := [0x06#8, 0x24#8], ckA := 0x32#8, ckB := 0x5A#8 },
    by decide, .inr (by decide)⟩

theorem witness_UnverifiedAckIsAccepted :
    setSent.xstate = .sent ∧ setSent.pstate = .sync1 ∧ setSent.wantAck = true ∧ setSent.verifyCk = false ∧
      ([0x99#8] : List Byte).length + 2 ≤ 65535 := by decide

theorem witness_PollReturnsTheModelByte :
    (fed resp6 start).xstate ≠ .sent ∧ (fed resp6 start).xstate ≠ .failed ∧ (fed resp6 start).draw.txok = true ∧
      (after (exec .poll (fed resp6 start))).isSome = true ∧ 3 ≤ ([0x00#8, 0x00#8, 0x06#8] : List Byte).length ∧
      assembleFrame 0x06#8 0x24#8 [0x00#8, 0x00#8, 0x06#8] = some resp6 ∧
      (fed resp6 start).inputs = resp6.map .rxByte ++ [] := by decide

theorem witness_TickCountsDown :
    (({ setSent with dlCnt := 0#32 } : State).xstate = .sent ∧ ({ setSent with dlCnt := 0#32 } : State).dlEn = true) ∧
      setSent.dlCnt ≠ 0#32 ∧ (start.xstate ≠ .sent ∧ pollSent.dlEn = false) := by decide

theorem witness_TimesOutOnTickAfterDeadline :
    let s : State := { setSent with dlCnt := 3#32, inputs := List.replicate 4 .tick }
    s.xstate = .sent ∧ s.dlEn = true ∧ s.inputs = List.replicate (s.dlCnt.toNat + 1) .tick ++ [] := by decide

theorem witness_DeadlineIsAbsolute :
    setSent.xstate = .sent ∧ setSent.dlEn = true ∧ (∀ e ∈ [Event.tick], e = .tick ∨ ∃ b, e = .rxByte b) ∧
      run 1 { setSent with inputs := [.tick] } = .next { setSent with dlCnt := 1999#32 } := by
  refine ⟨rfl, rfl, ?_, rfl⟩
  intro e he
  exact .inl (List.mem_singleton.mp he)

theorem witness_UnboundedPollIgnoresTicks :
    pollSent.xstate = .sent ∧ pollSent.dlEn = false ∧
      ({ pollSent with inputs := [.tick, .tick] } : State).inputs = List.replicate 2 .tick ++ [] := by decide

theorem witness_RxFailEndsInFailed :
    ({ setSent with inputs := [.rxFail] } : State).inputs = .rxFail :: [] ∧ setSent.xstate = .sent ∧ start.xstate ≠ .sent := by
  decide

/-- CTRL, TMO_ACK, TMO_POLL, the first read-only number and a reserved one. -/
theorem witness_ConfigurationWrite :
    ∀ n ∈ [0, 1, 2, 3, 8], ({ failedState with inputs := [.cfgWr n 7#32] } : State).inputs = .cfgWr n 7#32 :: [] ∧
      failedState.xstate ≠ .sent ∧ setSent.xstate = .sent := by decide

theorem witness_ModelReadsOnlyWhenValid :
    ({ start with xstate := .responded, model := some 6#8 } : State).model = some 6#8 ∧
      ({ start with xstate := .responded } : State).model = none ∧ start.xstate ≠ .responded := by decide

theorem witness_ConfigurationReadsBack : setSent.xstate = .sent ∧ setSent.dlEn = true ∧ 8 ≤ 8 := by decide

theorem witness_ModelNames : 10 ≤ (10#8 : Byte).toNat ∧ 10 ≤ (255#8 : Byte).toNat := by decide

theorem witness_DecodeOfEncodeIsTheInstruction :
    (Instr.txRaw 0xAB#8 0xCD#8 [0x01#8]).wf = true ∧ (Instr.rxOther 0x05#8 0x02#8 0#16).wf = true ∧
      (Instr.cwIllegal 0x60000000#32).wf = true ∧ (Instr.txCfgRst 0xFF#8 0x8000#16).wf = true := by decide

theorem witness_PayloadIgnoredButByRaw : (0x20060000#32 : Word).toNat / 2 ^ 28 ≠ 5 := by decide

end Sys2Proof.Tests
end

section
/-! PROOFS. What the step can do, said once for every later proof: the event taken, the effect of a command word, the three
ends of a sent frame, the rule each parser position runs. -/

namespace Sys2Proof.Machine

/-! ## The step and its event -/

/-- A step that answers either had no event, or consumed the first one. -/
theorem step_next_cases {s t : State} (h : step s = .next t) :
    (s.inputs = [] ∧ t = s) ∨
      ∃ e rest, s.inputs = e :: rest ∧ consume e { s with inputs := rest } = .next t := by
  cases hin : s.inputs with
  | nil =>
    rw [step_no_event hin] at h
    cases h
    exact .inl ⟨rfl, rfl⟩
  | cons e rest =>
    rw [step_event hin] at h
    exact .inr ⟨e, rest, rfl, h⟩

theorem consume_reset (s : State) : consume .reset s = .next (blockReset Config.tickHz s) := rfl

theorem consume_cmd (cw : Word) (p : List Byte) (ok : Bool) (k : Nat) (s : State) :
    consume (.cmd cw p ok k) s = exec (decodeCommand cw p) { s with draw := ⟨ok, k⟩ } := rfl

theorem consume_cfgWr (n : Nat) (v : Word) (s : State) : consume (.cfgWr n v) s = cfgWrStep n v s := rfl

theorem consume_rxFail (s : State) : consume .rxFail s = rxFailStep s := rfl

theorem consume_tick (s : State) : consume .tick s = .next (tick s) := rfl

/-! ## Events and rows that are not enabled -/

theorem cmdReady_eq_false_iff (s : State) : cmdReady s = false ↔ s.xstate = .sent ∨ s.xstate = .failed := by
  cases h : s.xstate <;> simp [cmdReady, h]

theorem commandStep_next {effect : State → State} {s t : State} (h : commandStep effect s = .next t) :
    cmdReady s = true ∧ t = effect (accept s) := by
  cases hr : cmdReady s with
  | true => rw [commandStep_ready hr] at h; cases h; exact ⟨rfl, rfl⟩
  | false => rw [commandStep_not_ready hr] at h; cases h

theorem classifyStep_not_sent {cls id : Byte} {len : Half} {s : State} (h : s.xstate ≠ .sent) :
    classifyStep cls id len s = .refused .rxByteNotEnabled := if_neg h

theorem receive_not_sent {b : Byte} {s : State} (h : s.xstate ≠ .sent) :
    receive b s = .refused .rxByteNotEnabled := if_neg h

theorem rxFailStep_sent {s : State} (h : s.xstate = .sent) : rxFailStep s = .next (raise .eXport s) := if_pos h

theorem rxFailStep_not_sent {s : State} (h : s.xstate ≠ .sent) : rxFailStep s = .refused .rxFailNotEnabled := if_neg h

theorem cfgWrStep_sent {n : Nat} {v : Word} {s : State} (h : s.xstate = .sent) :
    cfgWrStep n v s = .refused .cfgWrNotEnabled := if_pos h

theorem cfgWrStep_not_sent {n : Nat} {v : Word} {s : State} (h : s.xstate ≠ .sent) :
    cfgWrStep n v s = .next (writeReg n v s) := if_neg h

/-! ## What a command word does -/

/-- What a command does once its frame is out (R214 to R218): nothing, or it opens one of the two kinds of exchange. -/
inductive AfterSend : (State → State) → Prop where
  | nothing : AfterSend fun t => t
  | poll : AfterSend fun t => openExchange (pollExchange t) t
  | ack (reqId : Byte) (known : reqId = Config.idNav5 ∨ reqId = Config.idRst) :
      AfterSend fun t => openExchange (ackExchange reqId t) t

/-- The effect of a command word inside the `Cmd` step: `E_OP`, or a frame and what comes after it. -/
inductive CommandEffect : (State → State) → Prop where
  | illegal : CommandEffect (raise .eOp)
  | send (cls id : Byte) (payload : List Byte) (after : State → State) (h : AfterSend after) :
      CommandEffect (sendFrame cls id payload after)

/-- Every command word is the `Cmd` step around one of these effects (R210, R220). -/
theorem exec_decodeCommand (cw : Word) (p : List Byte) :
    ∃ effect, CommandEffect effect ∧ ∀ s, exec (decodeCommand cw p) s = commandStep effect s := by
  unfold decodeCommand
  repeat' split
  · exact ⟨_, .send _ _ _ _ .poll, fun _ => rfl⟩
  · exact ⟨_, .send _ _ _ _ (.ack _ (.inl rfl)), fun _ => rfl⟩
  · exact ⟨_, .send _ _ _ _ .nothing, fun _ => rfl⟩
  · exact ⟨_, .send _ _ _ _ (.ack _ (.inr rfl)), fun _ => rfl⟩
  · exact ⟨_, .send _ _ _ _ .nothing, fun _ => rfl⟩
  · exact ⟨_, .illegal, fun _ => rfl⟩

/-- The three ends of a sent frame: too long, written, or cut off by a failed write (R210, R230, R232). -/
theorem sendFrame_cases (cls id : Byte) (p : List Byte) (after : State → State) (s : State) :
    (assembleFrame cls id p = none ∧ sendFrame cls id p after s = raise .eLen s) ∨
      ∃ f, assembleFrame cls id p = some f ∧
        ((s.draw.txok = true ∧ sendFrame cls id p after s = after (txWrite f s)) ∨
          (s.draw.txok = false ∧
            sendFrame cls id p after s = raise .eXport (txWrite (failedPart s.draw.k f) s))) := by
  cases hf : assembleFrame cls id p with
  | none => exact .inl ⟨rfl, sendFrame_too_long hf⟩
  | some f =>
    refine .inr ⟨f, rfl, ?_⟩
    cases hok : s.draw.txok with
    | true => exact .inl ⟨rfl, sendFrame_ok hf hok⟩
    | false => exact .inr ⟨rfl, sendFrame_fails hf hok⟩

/-! ## What the receive parser does at each position -/

/-- The state after a received byte in Sent, by the parser position (R150). -/
def parserNext (b : Byte) (s : State) : State :=
  match s.pstate with
  | .sync1 => rxSearch b s
  | .sync2 => rxSecondSync Config.syncOverlap b s
  | .cls => rxClass b s
  | .ident => rxIdent b s
  | .len0 => rxLengthLow b s
  | .len1 => rxLengthHigh b s
  | .payload => rxPayload b s
  | .ckA => rxFirstCheck b s
  | .ckB =>
    if s.verifyCk && !checkOk b s then { s with pstate := .sync1 }
    else classify s.rxCls s.rxId s.rxLen { s with pstate := .sync1 }

/-- In Sent a received byte always has a step, the one of its position. -/
theorem receive_eq_next {b : Byte} {s : State} (h : s.xstate = .sent) : receive b s = .next (parserNext b s) := by
  cases hp : s.pstate <;> simp only [receive, receiveWith, parserNext, if_pos h, hp]
  exact rxComplete_sent h

theorem receive_next {b : Byte} {s t : State} (h : receive b s = .next t) : s.xstate = .sent ∧ t = parserNext b s := by
  by_cases hx : s.xstate = .sent
  · rw [receive_eq_next hx] at h
    cases h
    exact ⟨hx, rfl⟩
  · rw [receive_not_sent hx] at h
    cases h

/-- Before the end of a frame a received byte changes the parser's registers only (R151 to R159). -/
theorem parserNext_sameButParser {b : Byte} {s : State} (hp : s.pstate ≠ .ckB) : SameButParser s (parserNext b s) := by
  obtain ⟨h1, h2, h3, h4, h5, h6, h7, h8⟩ := parser_frame Config.syncOverlap b s
  cases hs : s.pstate <;> simp only [parserNext, hs]
  case ckB => exact absurd hs hp
  all_goals assumption

@[simp] theorem classify_inputs (cls id : Byte) (len : Half) (s : State) :
    (classify cls id len s).inputs = s.inputs := by
  obtain ⟨-, heq⟩ | ⟨-, heq⟩ | ⟨-, heq⟩ | ⟨-, -, -, heq⟩ := classify_cases cls id len s <;> rw [heq]

@[simp] theorem parserNext_inputs (b : Byte) (s : State) : (parserNext b s).inputs = s.inputs := by
  cases hp : s.pstate <;> simp only [parserNext, hp]
  case sync2 => unfold rxSecondSync; split <;> rfl
  case ckB =>
    split
    · rfl
    · exact classify_inputs _ _ _ _
  all_goals rfl

/-! ## Classification, ticks and register writes -/

theorem wantAck_of_namesRequest {code cls id : Byte} {len : Half} {s : State}
    (h : namesRequest code cls id len s = true) : s.wantAck = true := by
  simp_all [namesRequest]

theorem wantResp_of_isResponse {cls id : Byte} {len : Half} {s : State} (h : isResponse cls id len s = true) :
    s.wantResp = true := by
  simp_all [isResponse]

theorem namesRequest_of_not_wantAck {code cls id : Byte} {len : Half} {s : State} (h : s.wantAck = false) :
    namesRequest code cls id len s = false := by
  simp [namesRequest, h]

theorem tick_at_zero {s : State} (h : s.xstate = .sent ∧ s.dlEn = true) (hz : s.dlCnt = 0#32) :
    tick s = { s with xstate := .timedOut } := (if_pos h).trans (if_pos hz)

theorem tick_counting {s : State} (h : s.xstate = .sent ∧ s.dlEn = true) (hz : s.dlCnt ≠ 0#32) :
    tick s = { s with dlCnt := s.dlCnt - 1#32 } := (if_pos h).trans (if_neg hz)

theorem tick_without_deadline {s : State} (h : ¬(s.xstate = .sent ∧ s.dlEn = true)) : tick s = s := if_neg h

@[simp] theorem writeReg_xstate (n : Nat) (v : Word) (s : State) : (writeReg n v s).xstate = s.xstate := by
  match n with
  | 0 | 1 | 2 | _ + 3 => rfl

/-! ## Byte order and assembled frames -/

theorem lo8_le16 (b0 b1 : Byte) : lo8 (le16 b0 b1) = b0 := by
  apply BitVec.eq_of_toNat_eq
  rw [lo8, BitVec.extractLsb'_toNat, le16, append_toNat, Nat.shiftRight_zero]
  omega

theorem le16_lo8_hi8 (v : Half) : le16 (lo8 v) (hi8 v) = v := by
  apply BitVec.eq_of_toNat_eq
  have hv : v.toNat < 2 ^ 16 := v.isLt
  rw [le16, append_toNat, lo8, hi8, BitVec.extractLsb'_toNat, BitVec.extractLsb'_toNat, Nat.shiftRight_zero,
    Nat.shiftRight_eq_div_pow]
  omega

theorem assembleFrame_eq_some {cls id : Byte} {p f : List Byte} (h : assembleFrame cls id p = some f) :
    p.length ≤ 65535 ∧
      f = [Config.sync1, Config.sync2] ++ frameBody cls id p ++
        [(computeChecksum (frameBody cls id p)).1, (computeChecksum (frameBody cls id p)).2] := by
  have hle : p.length ≤ 65535 := by
    by_contra hgt
    rw [assembleFrame_of_gt (by omega)] at h
    cases h
  rw [assembleFrame_of_le hle] at h
  exact ⟨hle, (Option.some.inj h).symm⟩

end Sys2Proof.Machine
end

section
/-! PROOFS. The invariant of the reachable states: it holds after reset and every step keeps it. -/

namespace Sys2Proof.Machine

/-! ## States that meet the invariant by their exchange state alone -/

/-- Outside Sent and Failed, with no command error, what is left to show is that the result fits. -/
theorem stateInv_of_ended {s : State} (hx : s.xstate ≠ .sent ∧ s.xstate ≠ .failed) (hm : ModelOnlyResponded s)
    (he : s.err = .none) (hr : ResultFitsRequest s) : StateInv s :=
  ⟨hm, iff_of_false hx.2 (by simp [he]), fun h => by simp [he] at h, fun h => absurd h hx.1, fun h => absurd h hx.1, hr⟩

theorem stateInv_of_idle {s : State} (hx : s.xstate = .idle) (hm : s.model = none) (he : s.err ≠ .eXport) :
    StateInv s := by
  simp [StateInv, ModelOnlyResponded, FailedIsTransport, CommandErrorInIdle, ResultFitsRequest, hx, hm, he]

theorem stateInv_of_failed {s : State} (hx : s.xstate = .failed) (hm : s.model = none) (he : s.err = .eXport) :
    StateInv s := by
  simp [StateInv, ModelOnlyResponded, FailedIsTransport, CommandErrorInIdle, ResultFitsRequest, hx, hm, he]

/-- A state in Sent meets the invariant with no model byte, no error, the index below the length and a legal request. -/
theorem stateInv_of_sent {s : State} (hx : s.xstate = .sent) (hm : s.model = none) (he : s.err = .none)
    (hi : PayloadIndexBelow s) (hr : PendingLegal s) : StateInv s := by
  refine ⟨?_, ?_, ?_, hi, hr, ?_⟩ <;>
    simp [ModelOnlyResponded, FailedIsTransport, CommandErrorInIdle, ResultFitsRequest, hx, hm, he]

/-- In Sent the invariant leaves no model byte and no error. -/
theorem StateInv.sent {s : State} (h : StateInv s) (hx : s.xstate = .sent) : s.model = none ∧ s.err = .none := by
  obtain ⟨hm, hf, hc, -, -, -⟩ := h
  refine ⟨by simpa [ModelOnlyResponded, hx] using hm, ?_⟩
  cases he : s.err with
  | none => rfl
  | eLen => exact absurd (hc (.inl he)) (by simp [hx])
  | eXport => exact absurd (hf.mpr he) (by simp [hx])
  | eOp => exact absurd (hc (.inr he)) (by simp [hx])

theorem StateInv.payloadIndex {s : State} (h : StateInv s) : PayloadIndexBelow s := by
  obtain ⟨-, -, -, hi, -, -⟩ := h
  exact hi

/-! ## Commands -/

/-- What comes after a sent frame ends in Idle or in a newly opened exchange with a legal request. -/
theorem AfterSend.stateInv {after : State → State} (h : AfterSend after) {s : State} (hx : s.xstate = .idle)
    (hm : s.model = none) (he : s.err = .none) : StateInv (after s) := by
  cases h with
  | nothing => exact stateInv_of_idle hx hm (by simp [he])
  | poll =>
    exact stateInv_of_sent rfl hm he (by simp) fun _ => .inl ⟨rfl, rfl, rfl, rfl, rfl, rfl⟩
  | ack reqId known =>
    exact stateInv_of_sent rfl hm he (by simp) fun _ => .inr ⟨rfl, rfl, rfl, known, rfl⟩

/-- A command meets the invariant from any state at all: acceptance drops what was there (R210). -/
theorem CommandEffect.stateInv {effect : State → State} (h : CommandEffect effect) (s : State) :
    StateInv (effect (accept s)) := by
  cases h with
  | illegal => exact stateInv_of_idle rfl rfl (by simp)
  | send cls id p after hafter =>
    obtain ⟨-, heq⟩ | ⟨f, -, ⟨-, heq⟩ | ⟨-, heq⟩⟩ := sendFrame_cases cls id p after (accept s) <;> rw [heq]
    · exact stateInv_of_idle rfl rfl (by simp)
    · exact hafter.stateInv rfl rfl rfl
    · exact stateInv_of_failed rfl rfl rfl

/-! ## Received bytes -/

/-- A change of the parser's registers that keeps the index below the length keeps the invariant. -/
theorem StateInv.of_sameButParser {s t : State} (h : StateInv s) (hst : SameButParser s t)
    (hi : PayloadIndexBelow t) : StateInv t := by
  obtain ⟨hm, hf, hc, -, hr, hw⟩ := h
  rw [hst] at hi ⊢
  exact ⟨hm, hf, hc, hi, hr, hw⟩

/-- P_LEN1 enters P_PAYLOAD with index 0 and a length that is not 0 (R157). -/
theorem rxLengthHigh_index (b : Byte) (s : State) : PayloadIndexBelow (rxLengthHigh b s) := by
  intro _ hp
  have hlen : le16 (lo8 s.rxLen) b ≠ 0#16 := by
    intro h0
    simp [rxLengthHigh, h0] at hp
  have : (le16 (lo8 s.rxLen) b).toNat ≠ 0 := fun h0 => hlen (BitVec.eq_of_toNat_eq h0)
  show 0 < (le16 (lo8 s.rxLen) b).toNat
  omega

/-- P_PAYLOAD stays there only below the length, so the index does not wrap (R29, R158). -/
theorem rxPayload_index {b : Byte} {s : State} (hlt : s.rxIdx.toNat < s.rxLen.toNat) :
    PayloadIndexBelow (rxPayload b s) := by
  intro _ hp
  have hne : s.rxIdx + 1#16 ≠ s.rxLen := by
    intro h
    simp [rxPayload, h] at hp
  show (s.rxIdx + 1#16).toNat < s.rxLen.toNat
  bv_omega

/-- Classification ends the exchange in a state its request waits for, or leaves it open (R182, R183). -/
theorem StateInv.classify {s : State} (h : StateInv s) (hx : s.xstate = .sent) (cls id : Byte) (len : Half) :
    StateInv (classify cls id len s) := by
  obtain ⟨hm, he⟩ := h.sent hx
  obtain ⟨hn, heq⟩ | ⟨hn, heq⟩ | ⟨hn, heq⟩ | ⟨-, -, -, heq⟩ := classify_cases cls id len s <;> rw [heq]
  · exact stateInv_of_ended (by simp) (by simp [hm]) he ⟨fun _ => wantAck_of_namesRequest hn, by simp, by simp⟩
  · exact stateInv_of_ended (by simp) (by simp [hm]) he ⟨fun _ => wantAck_of_namesRequest hn, by simp, by simp⟩
  · exact stateInv_of_ended (by simp) (fun _ => rfl) he ⟨by simp, fun _ => wantResp_of_isResponse hn, by simp⟩
  · exact h

/-- Before the end of a frame the payload index stays below the length: only P_LEN1 and P_PAYLOAD lead to P_PAYLOAD. -/
theorem parserNext_payloadIndex {b : Byte} {s : State} (hx : s.xstate = .sent) (hi : PayloadIndexBelow s)
    (hp : s.pstate ≠ .ckB) : PayloadIndexBelow (parserNext b s) := by
  cases hs : s.pstate <;> simp only [parserNext, hs]
  case len1 => exact rxLengthHigh_index b s
  case payload => exact rxPayload_index (hi hx hs)
  case ckB => exact absurd hs hp
  case sync1 =>
    intro _ hpl
    simp only [rxSearch] at hpl
    split at hpl <;> cases hpl
  case sync2 =>
    intro _ hpl
    unfold rxSecondSync at hpl
    split at hpl
    · cases hpl
    · dsimp only at hpl
      split at hpl <;> cases hpl
  all_goals exact fun _ hpl => nomatch hpl

/-- A received byte keeps the invariant. -/
theorem StateInv.parserNext {s : State} (h : StateInv s) (hx : s.xstate = .sent) (b : Byte) :
    StateInv (parserNext b s) := by
  by_cases hp : s.pstate = .ckB
  · have hsync : StateInv { s with pstate := .sync1 } := h.of_sameButParser rfl fun _ hpl => nomatch hpl
    simp only [Machine.parserNext, hp]
    split
    · exact hsync
    · exact hsync.classify hx _ _ _
  · exact h.of_sameButParser (parserNext_sameButParser hp) (parserNext_payloadIndex hx h.payloadIndex hp)

/-! ## The other events -/

theorem StateInv.writeReg {s : State} (h : StateInv s) (n : Nat) (v : Word) : StateInv (writeReg n v s) := by
  unfold Machine.writeReg
  split <;> exact h

theorem StateInv.tick {s : State} (h : StateInv s) : StateInv (tick s) := by
  obtain ⟨hx, hd, -, heq⟩ | ⟨-, -, -, heq⟩ | ⟨-, heq⟩ := tick_cases s <;> rw [heq]
  · obtain ⟨hm, he⟩ := h.sent hx
    exact stateInv_of_ended (by simp) (by simp [hm]) he ⟨by simp, by simp, fun _ => hd⟩
  · exact h
  · exact h

/-- Consuming any event keeps the invariant. -/
theorem StateInv.consume {s t : State} {e : Event} (h : StateInv s) (ht : consume e s = .next t) : StateInv t := by
  cases e with
  | reset =>
    rw [consume_reset] at ht
    cases ht
    exact stateInv_of_idle rfl rfl (by simp)
  | cmd cw p ok k =>
    obtain ⟨effect, heff, hexec⟩ := exec_decodeCommand cw p
    rw [consume_cmd, hexec] at ht
    obtain ⟨-, rfl⟩ := commandStep_next ht
    exact heff.stateInv _
  | cfgWr n v =>
    rw [consume_cfgWr] at ht
    by_cases hx : s.xstate = .sent
    · rw [cfgWrStep_sent hx] at ht
      cases ht
    · rw [cfgWrStep_not_sent hx] at ht
      cases ht
      exact h.writeReg n v
  | rxByte b =>
    rw [consume_rxByte] at ht
    obtain ⟨hx, rfl⟩ := receive_next ht
    exact h.parserNext hx b
  | rxFail =>
    rw [consume_rxFail] at ht
    by_cases hx : s.xstate = .sent
    · rw [rxFailStep_sent hx] at ht
      cases ht
      exact stateInv_of_failed rfl (h.sent hx).1 rfl
    · rw [rxFailStep_not_sent hx] at ht
      cases ht
  | tick =>
    rw [consume_tick] at ht
    cases ht
    exact h.tick

/-- Settles O4, event by event; a command needs nothing of the state before it, a received byte needs the payload index
below the length. -/
theorem everyStepKeepsInvariant : Obligations.EveryStepKeepsInvariant := by
  unfold Obligations.EveryStepKeepsInvariant
  intro s t h hstep
  obtain ⟨-, rfl⟩ | ⟨e, rest, -, hc⟩ := step_next_cases hstep
  · exact h
  · have h' : StateInv { s with inputs := rest } := h
    exact h'.consume hc

/-- Settles O3: after reset the block is Idle, with no model byte and no error. -/
theorem resetStateMeetsInvariant : Obligations.ResetStateMeetsInvariant := by
  unfold Obligations.ResetStateMeetsInvariant
  exact stateInv_of_idle rfl rfl (by simp [State.reset, State.resetFor])

end Sys2Proof.Machine
end

section
/-! PROOFS. The reset state, readiness, and what the host reads. -/

namespace Sys2Proof.Machine

/-! ## Reset -/

/-- `2 · TICK_HZ` fits in 32 bits, by the range of the open parameter (R41). -/
theorem two_tickHz_lt : 2 * Config.tickHz < 2 ^ 32 := by
  have := Config.tickHzLessOne.isLt
  simp only [Config.tickHz]
  omega

/-- Settles O1: every value but TMO_ACK stands in the definition; TMO_ACK does not wrap. -/
theorem resetStateHoldsTheGivenValues : Obligations.ResetStateHoldsTheGivenValues := by
  unfold Obligations.ResetStateHoldsTheGivenValues
  have htmo : State.reset.tmoAck.toNat = 2 * Config.tickHz := Nat.mod_eq_of_lt two_tickHz_lt
  exact ⟨rfl, rfl, rfl, rfl, rfl, rfl, rfl, rfl, rfl, htmo, rfl, rfl, rfl⟩

/-! ## Readiness -/

/-- Settles O20: the command words and the transmit rows are steps enabled by `cmd_ready`, the receive rows and the sync
rows steps enabled in Sent. -/
theorem instructionsRefusedWhenNotEnabled : Obligations.InstructionsRefusedWhenNotEnabled := by
  unfold Obligations.InstructionsRefusedWhenNotEnabled
  intro s
  refine ⟨cmdReady_iff s, fun h => ?_, fun h => ?_⟩
  · have hr : cmdReady s = false := (cmdReady_eq_false_iff s).mpr h
    exact ⟨commandStep_not_ready hr, fun _ => commandStep_not_ready hr, fun _ _ => commandStep_not_ready hr,
      fun _ _ => commandStep_not_ready hr, fun _ _ _ => commandStep_not_ready hr, fun _ => commandStep_not_ready hr,
      transmitStep_not_ready hr, fun _ => transmitStep_not_ready hr, fun _ _ => transmitStep_not_ready hr,
      fun _ _ _ => transmitStep_not_ready hr⟩
  · exact ⟨fun _ => classifyStep_not_sent h, fun _ => classifyStep_not_sent h, fun _ => classifyStep_not_sent h,
      fun _ _ _ => classifyStep_not_sent h, receive_not_sent h, receive_not_sent h⟩

/-! ## The words the host reads -/

theorem readReg_status (s : State) : readReg 3 s = .next (statusWord s) := rfl

theorem readReg_result (s : State) : readReg 4 s = .next (resultWord s) := rfl

theorem readReg_model (s : State) : readReg 5 s = readModel s := rfl

theorem readReg_err (s : State) : readReg 6 s = .next (errWord s) := rfl

theorem readReg_dlcnt (s : State) : readReg 7 s = .next (dlcntWord s) := rfl

theorem readReg_reserved {n : Nat} (h : 8 ≤ n) (s : State) : readReg n s = .next 0#32 := by
  obtain ⟨k, rfl⟩ := Nat.exists_eq_add_of_le' h
  rfl

theorem writeReg_reserved {n : Nat} (h : 3 ≤ n) (v : Word) (s : State) : writeReg n v s = s := by
  obtain ⟨k, rfl⟩ := Nat.exists_eq_add_of_le' h
  rfl

/-- The fields of a sum with the weights of STATUS (R43). -/
theorem status_fields_of_sum {v dl mv d b p x : Nat} (hv : v = 1024 * dl + 512 * mv + 256 * d + 128 * b + 8 * p + x)
    (hdl : dl < 2) (hmv : mv < 2) (hd : d < 2) (hb : b < 2) (hp : p < 16) (hx : x < 8) :
    v % 8 = x ∧ v / 2 ^ 3 % 16 = p ∧ v / 2 ^ 7 % 2 = b ∧ v / 2 ^ 8 % 2 = d ∧ v / 2 ^ 9 % 2 = mv ∧
      v / 2 ^ 10 % 2 = dl ∧ v / 2 ^ 11 = 0 := by
  omega

/-- Settles O53: STATUS is the weighted sum of its fields, and each code belongs to one value. -/
theorem statusFields : Obligations.StatusFields := by
  unfold Obligations.StatusFields
  intro s
  refine ⟨_, readReg_status s, ?_⟩
  obtain ⟨hx, hp, hb, hd, hmv, hdl, hres⟩ := status_fields_of_sum (statusWord_toNat s) (Bool.toNat_lt _)
    (Bool.toNat_lt _) (Bool.toNat_lt _) (Bool.toNat_lt _) (pstateCode s.pstate).isLt (xstateCode s.xstate).isLt
  rw [hx, hp, hb, hd, hmv, hdl, hres]
  refine ⟨?_, ?_, ?_, ?_, ?_, ?_, rfl⟩
  · cases s.xstate <;> decide
  · cases s.pstate <;> decide
  · cases h : s.xstate <;> simp [busy, h]
  · cases h : s.xstate <;> simp [done, h]
  · cases h : s.model <;> simp [modelValid, h]
  · cases s.dlEn <;> rfl

/-- Settles O54: each code belongs to one result and one error. -/
theorem resultAndErrorRead : Obligations.ResultAndErrorRead := by
  unfold Obligations.ResultAndErrorRead
  intro s
  refine ⟨⟨_, readReg_result s, ?_⟩, _, readReg_err s, ?_⟩
  · cases h : s.xstate <;> simp only [resultWord, result, h] <;> decide
  · cases h : s.err <;> simp only [errWord, h] <;> decide

theorem zero_append_eq_setWidth (b : Byte) : (0#24 ++ b : Word) = b.setWidth 32 := by
  apply BitVec.eq_of_toNat_eq
  have hb : b.toNat < 2 ^ 8 := b.isLt
  refine (append_toNat 0#24 b).trans ?_
  rw [BitVec.toNat_setWidth, BitVec.toNat_ofNat]
  omega

theorem readModel_responded {s : State} {b : Byte} (hx : s.xstate = .responded) (hm : s.model = some b) :
    readModel s = .next (b.setWidth 32) := by
  simp [readModel, hx, hm, zero_append_eq_setWidth]

theorem readModel_fault {s : State} (h : s.xstate ≠ .responded ∨ s.model = none) :
    readModel s = .fault .modelNotValid := by
  unfold readModel
  split
  · simp_all
  · rfl

/-- Settles O55: the two cases of a read of MODEL. -/
theorem modelReadsOnlyWhenValid : Obligations.ModelReadsOnlyWhenValid := by
  unfold Obligations.ModelReadsOnlyWhenValid
  exact fun s => ⟨fun _ hx hm => readModel_responded hx hm, fun h => readModel_fault h⟩

/-- CTRL reads back the two bits it holds of a written value (R40). -/
theorem ctrlWord_writeReg (v : Word) (s : State) : ctrlWord (writeReg 0 v s) = v &&& 3#32 := by
  apply BitVec.eq_of_getLsbD_eq
  intro i hi
  simp only [ctrlWord, writeReg, BitVec.getLsbD_and, BitVec.getLsbD_append]
  interval_cases i <;> simp

theorem dlcntWord_meaningful {s : State} (h : DlcntMeaningful s) : dlcntWord s = s.dlCnt := if_pos h

/-- Settles O56: each register reads the field its write sets. -/
theorem configurationReadsBack : Obligations.ConfigurationReadsBack := by
  unfold Obligations.ConfigurationReadsBack
  refine fun s v => ⟨?_, rfl, rfl, fun hx hd => ?_,
    fun n hn => ⟨readReg_reserved hn s, writeReg_reserved (by omega) v s⟩⟩
  · exact congrArg Host.Outcome.next (ctrlWord_writeReg v s)
  · rw [readReg_dlcnt, dlcntWord_meaningful ⟨hx, hd⟩]

end Sys2Proof.Machine
end

section
/-! PROOFS. The configuration while an exchange runs. -/

namespace Sys2Proof.Machine

/-- `t` has the configuration of `s`: CTRL, TMO_ACK and TMO_POLL (R40 to R42). -/
def SameConfiguration (s t : State) : Prop :=
  t.verifyCk = s.verifyCk ∧ t.tmoPollEn = s.tmoPollEn ∧ t.tmoAck = s.tmoAck ∧ t.tmoPoll = s.tmoPoll

theorem SameButParser.sameConfiguration {s t : State} (h : SameButParser s t) : SameConfiguration s t := by
  rw [h]
  exact ⟨rfl, rfl, rfl, rfl⟩

theorem classify_sameConfiguration (cls id : Byte) (len : Half) (s : State) :
    SameConfiguration s (classify cls id len s) := by
  obtain ⟨-, heq⟩ | ⟨-, heq⟩ | ⟨-, heq⟩ | ⟨-, -, -, heq⟩ := classify_cases cls id len s <;> rw [heq] <;>
    exact ⟨rfl, rfl, rfl, rfl⟩

theorem parserNext_sameConfiguration (b : Byte) (s : State) : SameConfiguration s (parserNext b s) := by
  by_cases hp : s.pstate = .ckB
  · simp only [parserNext, hp]
    split
    · exact ⟨rfl, rfl, rfl, rfl⟩
    · exact classify_sameConfiguration _ _ _ { s with pstate := .sync1 }
  · exact (parserNext_sameButParser hp).sameConfiguration

theorem tick_sameConfiguration (s : State) : SameConfiguration s (tick s) := by
  obtain ⟨-, -, -, heq⟩ | ⟨-, -, -, heq⟩ | ⟨-, heq⟩ := tick_cases s <;> rw [heq] <;> exact ⟨rfl, rfl, rfl, rfl⟩

/-- Consuming an event in Sent, `Reset` apart, keeps the configuration: `Cmd` and `CfgWr` are not enabled there. -/
theorem consume_sent_sameConfiguration {s t : State} {e : Event} (he : e ≠ .reset) (hx : s.xstate = .sent)
    (h : consume e s = .next t) : SameConfiguration s t := by
  cases e with
  | reset => exact absurd rfl he
  | cmd cw p ok k =>
    obtain ⟨effect, -, hexec⟩ := exec_decodeCommand cw p
    rw [consume_cmd, hexec] at h
    obtain ⟨hready, -⟩ := commandStep_next h
    exact absurd hx ((cmdReady_iff _).mp hready).1
  | cfgWr n v =>
    rw [consume_cfgWr, cfgWrStep_sent hx] at h
    cases h
  | rxByte b =>
    rw [consume_rxByte] at h
    obtain ⟨-, rfl⟩ := receive_next h
    exact parserNext_sameConfiguration b s
  | rxFail =>
    rw [consume_rxFail, rxFailStep_sent hx] at h
    cases h
    exact ⟨rfl, rfl, rfl, rfl⟩
  | tick =>
    rw [consume_tick] at h
    cases h
    exact tick_sameConfiguration s

/-- Settles O9, event by event. -/
theorem configurationConstantInExchange : Obligations.ConfigurationConstantInExchange := by
  unfold Obligations.ConfigurationConstantInExchange
  intro s t e rest hin he hx hstep
  rw [step_event hin] at hstep
  have hconf : SameConfiguration { s with inputs := rest } t := consume_sent_sameConfiguration he hx hstep
  exact hconf

end Sys2Proof.Machine
end

section
/-! PROOFS. Two runs that differ in unspecified registers. Outside an exchange the two states differ only there; inside one
they also agree on the pending request and on every latch the parser has written since the exchange was opened. -/

namespace Sys2Proof.Machine

/-! ## States that agree but for the unspecified registers -/

section SameButUnspecified

variable {s t : State}

theorem SameButUnspecified.xstate (h : SameButUnspecified s t) : t.xstate = s.xstate := by rw [h]

theorem SameButUnspecified.pstate (h : SameButUnspecified s t) : t.pstate = s.pstate := by rw [h]

theorem SameButUnspecified.draw (h : SameButUnspecified s t) : t.draw = s.draw := by rw [h]

theorem SameButUnspecified.inputs (h : SameButUnspecified s t) : t.inputs = s.inputs := by rw [h]

theorem SameButUnspecified.wantAck (h : SameButUnspecified s t) : t.wantAck = s.wantAck := by rw [h]

theorem SameButUnspecified.wantResp (h : SameButUnspecified s t) : t.wantResp = s.wantResp := by rw [h]

theorem SameButUnspecified.dlEn (h : SameButUnspecified s t) : t.dlEn = s.dlEn := by rw [h]

theorem SameButUnspecified.verifyCk (h : SameButUnspecified s t) : t.verifyCk = s.verifyCk := by rw [h]

theorem SameButUnspecified.cmdReady (h : SameButUnspecified s t) : cmdReady t = cmdReady s := by rw [h]; rfl

theorem SameButUnspecified.withInputs (h : SameButUnspecified s t) (es : List Event) :
    SameButUnspecified { s with inputs := es } { t with inputs := es } := by rw [h]; rfl

theorem SameButUnspecified.withDraw (h : SameButUnspecified s t) (d : WriteDraw) :
    SameButUnspecified { s with draw := d } { t with draw := d } := by rw [h]; rfl

theorem SameButUnspecified.withXState (h : SameButUnspecified s t) (x : XState) :
    SameButUnspecified { s with xstate := x } { t with xstate := x } := by rw [h]; rfl

theorem SameButUnspecified.withPState (h : SameButUnspecified s t) (p : PState) :
    SameButUnspecified { s with pstate := p } { t with pstate := p } := by rw [h]; rfl

theorem SameButUnspecified.responded (h : SameButUnspecified s t) (m : Option Byte) :
    SameButUnspecified { s with xstate := .responded, model := m } { t with xstate := .responded, model := m } := by
  rw [h]; rfl

theorem SameButUnspecified.accept (h : SameButUnspecified s t) : SameButUnspecified (accept s) (accept t) := by
  rw [h]; rfl

theorem SameButUnspecified.raise (h : SameButUnspecified s t) (e : Err) :
    SameButUnspecified (raise e s) (raise e t) := by rw [h]; rfl

theorem SameButUnspecified.txWrite (h : SameButUnspecified s t) (bytes : List Byte) :
    SameButUnspecified (txWrite bytes s) (txWrite bytes t) := by rw [h]; rfl

theorem SameButUnspecified.blockReset (h : SameButUnspecified s t) (hz : Nat) :
    SameButUnspecified (blockReset hz s) (blockReset hz t) := by rw [h]; rfl

theorem SameButUnspecified.writeReg (h : SameButUnspecified s t) (n : Nat) (v : Word) :
    SameButUnspecified (writeReg n v s) (writeReg n v t) := by
  match n with
  | 0 | 1 | 2 | _ + 3 => rw [h]; rfl

/-- Changes of the parser's registers that leave both at one position keep the agreement. -/
theorem SameButUnspecified.of_sameButParser (h : SameButUnspecified s t) {s' t' : State} (hs : SameButParser s s')
    (ht : SameButParser t t') (hin : t'.inputs = s'.inputs) (hp : t'.pstate = s'.pstate) : SameButUnspecified s' t' := by
  rw [ht, hin, hp, h, hs]
  rfl

/-- DLCNT apart, no host register shows an unspecified register (R32). -/
theorem SameButUnspecified.readReg (h : SameButUnspecified s t) {n : Nat} (hn : n ≠ 7) : readReg n s = readReg n t := by
  match n with
  | 7 => exact absurd rfl hn
  | 0 | 1 | 2 | 3 | 4 | 5 | 6 | _ + 8 => rw [h]; rfl

end SameButUnspecified

/-! ## States that also agree on the exchange -/

/-- The two pending requests and their deadlines are the same (R22, R31). -/
def SamePending (s t : State) : Prop :=
  t.reqCls = s.reqCls ∧ t.reqId = s.reqId ∧ t.expCls = s.expCls ∧ t.expId = s.expId ∧ t.dlCnt = s.dlCnt

/-- The receive accumulators are the same. -/
def SameSums (s t : State) : Prop := t.rxCkA = s.rxCkA ∧ t.rxCkB = s.rxCkB

/-- The length, the index and the payload latches already written are the same. -/
def SamePayload (s t : State) : Prop :=
  t.rxLen = s.rxLen ∧ t.rxIdx = s.rxIdx ∧ (0 < s.rxIdx.toNat → t.rxP0 = s.rxP0) ∧
    (1 < s.rxIdx.toNat → t.rxP1 = s.rxP1) ∧ (2 < s.rxIdx.toNat → t.rxP2 = s.rxP2)

/-- The class, the id and the whole payload received are the same. -/
def SameFrame (s t : State) : Prop :=
  SameSums s t ∧ t.rxCls = s.rxCls ∧ t.rxId = s.rxId ∧ SamePayload s t ∧ s.rxIdx = s.rxLen

/-- The latches written at the positions before this one, since the sync sequence, are the same (R23, R151 to R160). -/
def SameLatches (s t : State) : Prop :=
  match s.pstate with
  | .sync1 => True
  | .sync2 => True
  | .cls => SameSums s t
  | .ident => SameSums s t ∧ t.rxCls = s.rxCls
  | .len0 => SameSums s t ∧ t.rxCls = s.rxCls ∧ t.rxId = s.rxId
  | .len1 => SameSums s t ∧ t.rxCls = s.rxCls ∧ t.rxId = s.rxId ∧ lo8 t.rxLen = lo8 s.rxLen
  | .payload => SameSums s t ∧ t.rxCls = s.rxCls ∧ t.rxId = s.rxId ∧ SamePayload s t
  | .ckA => SameFrame s t
  | .ckB => SameFrame s t ∧ t.rxCkaRecv = s.rxCkaRecv

theorem sameLatches_of_payload {s t : State} (hp : s.pstate = .payload) :
    SameLatches s t ↔ SameSums s t ∧ t.rxCls = s.rxCls ∧ t.rxId = s.rxId ∧ SamePayload s t := by
  simp only [SameLatches, hp]

theorem sameLatches_of_ckA {s t : State} (hp : s.pstate = .ckA) : SameLatches s t ↔ SameFrame s t := by
  simp only [SameLatches, hp]

/-- The relation two runs keep: what may differ is what R51 leaves unspecified, and in an exchange only latches that the
parser writes before anything reads them. -/
structure Twin (s t : State) : Prop where
  same : SameButUnspecified s t
  pending : s.xstate = .sent → SamePending s t
  latches : s.xstate = .sent → SameLatches s t

theorem SameButUnspecified.twin {s t : State} (h : SameButUnspecified s t) (hx : s.xstate ≠ .sent) : Twin s t :=
  ⟨h, fun hs => absurd hs hx, fun hs => absurd hs hx⟩

theorem Twin.withInputs {s t : State} (h : Twin s t) (es : List Event) :
    Twin { s with inputs := es } { t with inputs := es } :=
  ⟨h.same.withInputs es, h.pending, h.latches⟩

/-- Twins look the same to the host. -/
theorem Twin.sameToHost {s t : State} (h : Twin s t) : SameToHost (.next s) (.next t) := by
  have hreg : ∀ n, n ≠ 7 ∨ DlcntMeaningful s → readReg n s = readReg n t := by
    intro n hn
    by_cases h7 : n = 7
    · subst h7
      have hmean : DlcntMeaningful s := hn.resolve_left (fun hne => hne rfl)
      have hmean' : DlcntMeaningful t := ⟨h.same.xstate.trans hmean.1, h.same.dlEn.trans hmean.2⟩
      obtain ⟨-, -, -, -, hcnt⟩ := h.pending hmean.1
      rw [readReg_dlcnt, readReg_dlcnt, dlcntWord_meaningful hmean, dlcntWord_meaningful hmean', hcnt]
    · exact h.same.readReg h7
  refine ⟨?_, ?_, ?_, ?_, ?_, hreg⟩ <;> rw [h.same]
  rfl

/-! ## Commands -/

/-- Opening the same exchange makes twins: nothing is latched yet. -/
theorem SameButUnspecified.openExchange {s t : State} (h : SameButUnspecified s t) (x : Exchange) :
    Twin (openExchange x s) (openExchange x t) := by
  rw [h]
  exact ⟨rfl, fun _ => ⟨rfl, rfl, rfl, rfl, rfl⟩, fun _ => trivial⟩

theorem AfterSend.twin {after : State → State} (ha : AfterSend after) {s t : State} (h : SameButUnspecified s t)
    (hx : s.xstate = .idle) : Twin (after s) (after t) := by
  cases ha with
  | nothing => exact h.twin (by simp [hx])
  | poll =>
    have hex : pollExchange t = pollExchange s := by rw [h]; rfl
    show Twin (openExchange (pollExchange s) s) (openExchange (pollExchange t) t)
    rw [hex]
    exact h.openExchange _
  | ack reqId known =>
    have hex : ackExchange reqId t = ackExchange reqId s := by rw [h]; rfl
    show Twin (openExchange (ackExchange reqId s) s) (openExchange (ackExchange reqId t) t)
    rw [hex]
    exact h.openExchange _

/-- A command reads no unspecified register but TMO_POLL (R213, U4). -/
theorem CommandEffect.twin {effect : State → State} (he : CommandEffect effect) {s t : State}
    (h : SameButUnspecified s t) : Twin (effect (accept s)) (effect (accept t)) := by
  cases he with
  | illegal => exact (h.accept.raise .eOp).twin (by simp)
  | send cls id p after ha =>
    cases hf : assembleFrame cls id p with
    | none =>
      rw [sendFrame_too_long hf, sendFrame_too_long hf]
      exact (h.accept.raise .eLen).twin (by simp)
    | some f =>
      have hdraw : (Machine.accept t).draw = (Machine.accept s).draw := h.draw
      cases hok : (Machine.accept s).draw.txok with
      | true =>
        rw [sendFrame_ok hf hok, sendFrame_ok hf (hdraw ▸ hok)]
        exact ha.twin (h.accept.txWrite f) rfl
      | false =>
        rw [sendFrame_fails hf hok, sendFrame_fails hf (hdraw ▸ hok), hdraw]
        exact ((h.accept.txWrite _).raise .eXport).twin (by simp)

/-! ## Received bytes -/

/-- The latches a classification reads: payload bytes 0 and 1 from length 2 on, byte 2 from length 3 on (R184 to R186). -/
theorem SameFrame.payloadBytes {s t : State} (h : SameFrame s t) :
    (2 ≤ s.rxLen.toNat → t.rxP0 = s.rxP0 ∧ t.rxP1 = s.rxP1) ∧ (3 ≤ s.rxLen.toNat → t.rxP2 = s.rxP2) := by
  obtain ⟨-, -, -, ⟨-, -, h0, h1, h2⟩, hend⟩ := h
  rw [hend] at h0 h1 h2
  exact ⟨fun hl => ⟨h0 (by omega), h1 (by omega)⟩, fun hl => h2 (by omega)⟩

/-- Two exchanges with the same request classify the same frame alike. -/
theorem Twin.classify {s t : State} (h : Twin s t) (hx : s.xstate = .sent) (cls id : Byte) {len : Half}
    (h01 : 2 ≤ len.toNat → t.rxP0 = s.rxP0 ∧ t.rxP1 = s.rxP1) (h2 : 3 ≤ len.toNat → t.rxP2 = s.rxP2) :
    Twin (classify cls id len s) (classify cls id len t) := by
  obtain ⟨hrc, hri, hec, hei, -⟩ := h.pending hx
  have hnames : ∀ code, namesRequest code cls id len t = namesRequest code cls id len s := by
    intro code
    by_cases hlen : 2 ≤ len.toNat
    · obtain ⟨h0, h1⟩ := h01 hlen
      simp only [namesRequest, h.same.wantAck, h0, h1, hrc, hri]
    · simp [namesRequest, hlen]
  have hresp : isResponse cls id len t = isResponse cls id len s := by
    simp only [isResponse, h.same.wantResp, hec, hei]
  have hmodel : (if 3 ≤ len.toNat then some t.rxP2 else none) = (if 3 ≤ len.toNat then some s.rxP2 else none) := by
    split
    · rw [h2 ‹_›]
    · rfl
  unfold Machine.classify
  rw [hnames, hnames, hresp, hmodel]
  split
  · exact (h.same.withXState .acked).twin (by simp)
  · split
    · exact (h.same.withXState .naked).twin (by simp)
    · split
      · exact (h.same.responded _).twin (by simp)
      · exact h

theorem SameSums.ckAbsorb {s t : State} (h : SameSums s t) (b : Byte) : SameSums (ckAbsorb b s) (ckAbsorb b t) := by
  obtain ⟨ha, hb⟩ := h
  simp [SameSums, ha, hb]

/-- A payload byte is latched in both at the same index. -/
theorem SamePayload.rxPayload {s t : State} (h : SamePayload s t) (b : Byte) :
    SamePayload (rxPayload b s) (rxPayload b t) := by
  obtain ⟨hl, hi, h0, h1, h2⟩ := h
  refine ⟨hl, congrArg (· + 1#16) hi, fun hlt => ?_, fun hlt => ?_, fun hlt => ?_⟩ <;>
    simp only [Machine.rxPayload, hi] at hlt ⊢
  · by_cases hz : s.rxIdx = 0#16
    · simp only [hz, if_true]
    · simp only [if_neg hz]
      exact h0 (by bv_omega)
  · by_cases hz : s.rxIdx = 1#16
    · simp only [hz, if_true]
    · simp only [if_neg hz]
      exact h1 (by bv_omega)
  · by_cases hz : s.rxIdx = 2#16
    · simp only [hz, if_true]
    · simp only [if_neg hz]
      exact h2 (by bv_omega)

/-- Both parsers go to the same position, and what they have latched there agrees. -/
theorem Twin.parserNext_latches {s t : State} (h : Twin s t) (hx : s.xstate = .sent) (hp : s.pstate ≠ .ckB) (b : Byte) :
    (parserNext b t).pstate = (parserNext b s).pstate ∧ SameLatches (parserNext b s) (parserNext b t) := by
  have hpt := h.same.pstate
  have hl := h.latches hx
  cases hs : s.pstate <;> simp only [SameLatches, hs] at hl <;> simp only [parserNext, hpt, hs]
  case ckB => exact absurd hs hp
  case sync1 =>
    refine ⟨rfl, ?_⟩
    by_cases hb : b = Config.sync1 <;> simp [SameLatches, rxSearch, hb]
  case sync2 =>
    unfold rxSecondSync
    split
    · exact ⟨rfl, rfl, rfl⟩
    · refine ⟨rfl, ?_⟩
      by_cases hb : b = Config.sync1 ∧ Config.syncOverlap = true <;> simp [SameLatches, hb]
  case cls => exact ⟨rfl, hl.ckAbsorb b, rfl⟩
  case ident =>
    obtain ⟨hck, hcls⟩ := hl
    exact ⟨rfl, hck.ckAbsorb b, hcls, rfl⟩
  case len0 =>
    obtain ⟨hck, hcls, hid⟩ := hl
    refine ⟨rfl, hck.ckAbsorb b, hcls, hid, ?_⟩
    show lo8 (le16 b (hi8 t.rxLen)) = lo8 (le16 b (hi8 s.rxLen))
    rw [lo8_le16, lo8_le16]
  case len1 =>
    obtain ⟨hck, hcls, hid, hlo⟩ := hl
    have hpl : SamePayload (rxLengthHigh b s) (rxLengthHigh b t) :=
      ⟨congrArg (le16 · b) hlo, rfl, fun h0 => absurd h0 (by simp [rxLengthHigh]),
        fun h0 => absurd h0 (by simp [rxLengthHigh]), fun h0 => absurd h0 (by simp [rxLengthHigh])⟩
    by_cases hz : le16 (lo8 s.rxLen) b = 0#16
    · have hps : (rxLengthHigh b s).pstate = .ckA := if_pos hz
      have hpt : (rxLengthHigh b t).pstate = .ckA := if_pos (hlo ▸ hz)
      exact ⟨hpt.trans hps.symm, (sameLatches_of_ckA hps).mpr ⟨hck.ckAbsorb b, hcls, hid, hpl, hz.symm⟩⟩
    · have hps : (rxLengthHigh b s).pstate = .payload := if_neg hz
      have hpt : (rxLengthHigh b t).pstate = .payload := if_neg (hlo ▸ hz)
      exact ⟨hpt.trans hps.symm, (sameLatches_of_payload hps).mpr ⟨hck.ckAbsorb b, hcls, hid, hpl⟩⟩
  case payload =>
    obtain ⟨hck, hcls, hid, hpl⟩ := hl
    have hend : t.rxIdx + 1#16 = t.rxLen ↔ s.rxIdx + 1#16 = s.rxLen := by
      obtain ⟨hlen, hidx, -⟩ := hpl
      rw [hlen, hidx]
    by_cases hz : s.rxIdx + 1#16 = s.rxLen
    · have hps : (rxPayload b s).pstate = .ckA := if_pos hz
      have hpt : (rxPayload b t).pstate = .ckA := if_pos (hend.mpr hz)
      exact ⟨hpt.trans hps.symm, (sameLatches_of_ckA hps).mpr ⟨hck.ckAbsorb b, hcls, hid, hpl.rxPayload b, hz⟩⟩
    · have hps : (rxPayload b s).pstate = .payload := if_neg hz
      have hpt : (rxPayload b t).pstate = .payload := if_neg (mt hend.mp hz)
      exact ⟨hpt.trans hps.symm, (sameLatches_of_payload hps).mpr ⟨hck.ckAbsorb b, hcls, hid, hpl.rxPayload b⟩⟩
  case ckA => exact ⟨rfl, hl, rfl⟩

/-- A received byte keeps twins twins. -/
theorem Twin.parserNext {s t : State} (h : Twin s t) (hx : s.xstate = .sent) (b : Byte) :
    Twin (parserNext b s) (parserNext b t) := by
  by_cases hp : s.pstate = .ckB
  · have hpt : t.pstate = .ckB := h.same.pstate.trans hp
    have hsync : Twin { s with pstate := .sync1 } { t with pstate := .sync1 } :=
      ⟨h.same.withPState .sync1, h.pending, fun _ => trivial⟩
    have hl := h.latches hx
    simp only [SameLatches, hp] at hl
    obtain ⟨hframe, hrecv⟩ := hl
    obtain ⟨h01, h2⟩ := hframe.payloadBytes
    obtain ⟨⟨hca, hcb⟩, hcls, hid, ⟨hlen, -⟩, -⟩ := hframe
    have hok : checkOk b t = checkOk b s := by simp only [checkOk, hrecv, hca, hcb]
    simp only [Machine.parserNext, hp, hpt]
    have hclass := hsync.classify hx s.rxCls s.rxId h01 h2
    generalize ({ t with pstate := .sync1 } : State) = t' at hsync hclass ⊢
    rw [h.same.verifyCk, hok, hcls, hid, hlen]
    split
    · exact hsync
    · exact hclass
  · have hpt : t.pstate ≠ .ckB := fun h' => hp (h.same.pstate.symm.trans h')
    have hs := parserNext_sameButParser (b := b) hp
    have ht := parserNext_sameButParser (b := b) hpt
    obtain ⟨hpos, hlatch⟩ := h.parserNext_latches hx hp b
    refine ⟨h.same.of_sameButParser hs ht ?_ hpos, fun _ => ?_, fun _ => hlatch⟩
    · rw [parserNext_inputs, parserNext_inputs, h.same.inputs]
    · rw [hs, ht]
      exact h.pending hx

/-! ## Events and runs -/

/-- Outcomes of the same kind, twins where they are next states. -/
def TwinOutcomes : Host.Outcome State Fault Refusal → Host.Outcome State Fault Refusal → Prop
  | .next s, .next t => Twin s t
  | .fault r, .fault q => r = q
  | .refused r, .refused q => r = q
  | _, _ => False

theorem TwinOutcomes.sameToHost {x y : Host.Outcome State Fault Refusal} (h : TwinOutcomes x y) : SameToHost x y := by
  cases x <;> cases y
  case next.next => exact Twin.sameToHost h
  all_goals exact h

theorem Twin.tick {s t : State} (h : Twin s t) : Twin (tick s) (tick t) := by
  by_cases hrun : s.xstate = .sent ∧ s.dlEn = true
  · have hrun' : t.xstate = .sent ∧ t.dlEn = true := by rwa [h.same.xstate, h.same.dlEn]
    obtain ⟨hrc, hri, hec, hei, hcnt⟩ := h.pending hrun.1
    by_cases hz : s.dlCnt = 0#32
    · rw [tick_at_zero hrun hz, tick_at_zero hrun' (hcnt.trans hz)]
      exact (h.same.withXState .timedOut).twin (by simp)
    · rw [tick_counting hrun hz, tick_counting hrun' (hcnt ▸ hz)]
      refine ⟨?_, fun _ => ⟨hrc, hri, hec, hei, by rw [hcnt]⟩, h.latches⟩
      rw [h.same]
      rfl
  · have hrun' : ¬(t.xstate = .sent ∧ t.dlEn = true) := by rwa [h.same.xstate, h.same.dlEn]
    rw [tick_without_deadline hrun, tick_without_deadline hrun']
    exact h

/-- Consuming the same event keeps twins twins. -/
theorem Twin.consume {s t : State} (h : Twin s t) (e : Event) : TwinOutcomes (consume e s) (consume e t) := by
  have hxt := h.same.xstate
  cases e with
  | reset => exact (h.same.blockReset Config.tickHz).twin (by simp)
  | cmd cw p ok k =>
    obtain ⟨effect, heff, hexec⟩ := exec_decodeCommand cw p
    have hdraw := h.same.withDraw ⟨ok, k⟩
    rw [consume_cmd, consume_cmd, hexec, hexec]
    cases hr : cmdReady { s with draw := ⟨ok, k⟩ } with
    | true =>
      rw [commandStep_ready hr, commandStep_ready (hdraw.cmdReady.trans hr)]
      exact heff.twin hdraw
    | false =>
      rw [commandStep_not_ready hr, commandStep_not_ready (hdraw.cmdReady.trans hr)]
      exact rfl
  | cfgWr n v =>
    rw [consume_cfgWr, consume_cfgWr]
    by_cases hx : s.xstate = .sent
    · rw [cfgWrStep_sent hx, cfgWrStep_sent (hxt.trans hx)]
      exact rfl
    · rw [cfgWrStep_not_sent hx, cfgWrStep_not_sent (hxt ▸ hx)]
      exact (h.same.writeReg n v).twin (by rwa [writeReg_xstate])
  | rxByte b =>
    rw [consume_rxByte, consume_rxByte]
    by_cases hx : s.xstate = .sent
    · rw [receive_eq_next hx, receive_eq_next (hxt.trans hx)]
      exact h.parserNext hx b
    · rw [receive_not_sent hx, receive_not_sent (hxt ▸ hx)]
      exact rfl
  | rxFail =>
    rw [consume_rxFail, consume_rxFail]
    by_cases hx : s.xstate = .sent
    · rw [rxFailStep_sent hx, rxFailStep_sent (hxt.trans hx)]
      exact (h.same.raise .eXport).twin (by simp)
    · rw [rxFailStep_not_sent hx, rxFailStep_not_sent (hxt ▸ hx)]
      exact rfl
  | tick => exact h.tick

theorem Twin.step {s t : State} (h : Twin s t) : TwinOutcomes (step s) (step t) := by
  cases hin : s.inputs with
  | nil =>
    rw [step_no_event hin, step_no_event (h.same.inputs.trans hin)]
    exact h
  | cons e rest =>
    rw [step_event hin, step_event (h.same.inputs.trans hin)]
    exact (h.withInputs rest).consume e

theorem Twin.run {s t : State} (h : Twin s t) (n : Nat) : TwinOutcomes (run n s) (run n t) := by
  induction n generalizing s t with
  | zero => exact h
  | succ n ih =>
    have hst := h.step
    simp only [Machine.run]
    generalize Machine.step s = x at hst
    generalize Machine.step t = y at hst
    cases x <;> cases y
    case next.next => exact ih hst
    case fault.fault => exact hst
    case refused.refused => exact hst
    all_goals exact False.elim hst

/-- Settles O11: outside Sent the two states are twins, twins stay so along any run, and twins look the same. -/
theorem unspecifiedRegistersStayInvisible : Obligations.UnspecifiedRegistersStayInvisible := by
  unfold Obligations.UnspecifiedRegistersStayInvisible
  intro n s t hx h
  exact ((h.twin hx).run n).sameToHost

end Sys2Proof.Machine
end

section
/-! PROOFS. A whole frame through the receive parser: what the parser holds when all but the last byte has arrived, and the
poll that such a frame answers. -/

namespace Sys2Proof.Machine

/-! ## Feeding bytes -/

/-- `s` with the given events waiting. -/
def State.withInputs (s : State) (es : List Event) : State := { s with inputs := es }

/-- With the bytes next in the receive stream, as many steps lead from `s` to `v`, whatever waits behind them. -/
def Feeds (bytes : List Byte) (s v : State) : Prop :=
  ∀ rest, run bytes.length (s.withInputs (bytes.map .rxByte ++ rest)) = .next (v.withInputs rest)

theorem Feeds.append {xs ys : List Byte} {s u v : State} (hx : Feeds xs s u) (hy : Feeds ys u v) :
    Feeds (xs ++ ys) s v := by
  intro rest
  rw [List.length_append, List.map_append, List.append_assoc, run_add _ (hx _)]
  exact hy rest

theorem Feeds.run {bytes : List Byte} {s v : State} (h : Feeds bytes s v) {rest : List Event}
    (hin : s.inputs = bytes.map .rxByte ++ rest) : run bytes.length s = .next (v.withInputs rest) := by
  have hrun := h rest
  rwa [← hin] at hrun

theorem classify_withInputs (cls id : Byte) (len : Half) (s : State) (es : List Event) :
    classify cls id len (s.withInputs es) = (classify cls id len s).withInputs es := by
  have hn : ∀ code, namesRequest code cls id len (s.withInputs es) = namesRequest code cls id len s := fun _ => rfl
  have hr : isResponse cls id len (s.withInputs es) = isResponse cls id len s := rfl
  unfold classify
  rw [hn, hn, hr]
  repeat' split
  all_goals rfl

/-- The parser does not look at the events still waiting. -/
theorem parserNext_withInputs (b : Byte) (s : State) (es : List Event) :
    parserNext b (s.withInputs es) = (parserNext b s).withInputs es := by
  have hp' : (s.withInputs es).pstate = s.pstate := rfl
  cases hp : s.pstate <;> simp only [parserNext, hp', hp]
  case sync2 => unfold rxSecondSync; split <;> rfl
  case ckB =>
    have hclass := classify_withInputs s.rxCls s.rxId s.rxLen { s with pstate := .sync1 } es
    by_cases hd : (s.verifyCk && !checkOk b s) = true
    · rw [if_pos hd]
      exact if_pos hd
    · rw [if_neg hd, ← hclass]
      exact if_neg hd
  all_goals rfl

theorem feeds_single {s : State} (hx : s.xstate = .sent) (b : Byte) : Feeds [b] s (parserNext b s) := by
  intro rest
  have hstep : step (s.withInputs (.rxByte b :: rest)) = consume (.rxByte b) (s.withInputs rest) := step_event rfl
  calc run 1 (s.withInputs (.rxByte b :: rest))
      = consume (.rxByte b) (s.withInputs rest) := (run_one _).trans hstep
    _ = receive b (s.withInputs rest) := consume_rxByte b _
    _ = .next (parserNext b (s.withInputs rest)) := receive_eq_next hx
    _ = .next ((parserNext b s).withInputs rest) := by rw [parserNext_withInputs]

/-- One byte at a time: a fed byte, then the others. -/
theorem feeds_cons {b : Byte} {bs : List Byte} {s v : State} (hx : s.xstate = .sent) (h : Feeds bs (parserNext b s) v) :
    Feeds (b :: bs) s v :=
  (feeds_single hx b).append h

/-! ## The payload -/

/-- The payload bytes `p` have been taken: the index counts them, and the first three are latched (R23, R29, R158). -/
structure PayloadTaken (p : List Byte) (s : State) : Prop where
  index : s.rxIdx.toNat = p.length
  byte0 : 1 ≤ p.length → s.rxP0 = p.getD 0 0#8
  byte1 : 2 ≤ p.length → s.rxP1 = p.getD 1 0#8
  byte2 : 3 ≤ p.length → s.rxP2 = p.getD 2 0#8

/-- `v` is `s` but for what the payload position writes (R158). -/
def SameButPayload (s v : State) : Prop :=
  v = { s with
    pstate := v.pstate, rxIdx := v.rxIdx, rxP0 := v.rxP0, rxP1 := v.rxP1, rxP2 := v.rxP2, rxCkA := v.rxCkA
    rxCkB := v.rxCkB }

theorem SameButPayload.trans {s u v : State} (h : SameButPayload s u) (h' : SameButPayload u v) : SameButPayload s v := by
  rw [h', h]
  rfl

/-- A latch for payload byte `k` holds it from its own byte on. -/
theorem latch_append {p : List Byte} {b old : Byte} {k : Nat} {idx kIdx : Half} (hk : kIdx.toNat = k)
    (hidx : idx.toNat = p.length) (hold : k + 1 ≤ p.length → old = p.getD k 0#8) (hlen : k + 1 ≤ (p ++ [b]).length) :
    (if idx = kIdx then b else old) = (p ++ [b]).getD k 0#8 := by
  rw [List.length_append, List.length_singleton] at hlen
  by_cases hkp : k = p.length
  · have heq : idx = kIdx := BitVec.eq_of_toNat_eq (by omega)
    simp [heq, hkp]
  · have hne : idx ≠ kIdx := fun h => hkp (by rw [← hk, ← h, hidx])
    rw [if_neg hne, hold (by omega), List.getD_append _ _ _ _ (by omega)]

theorem PayloadTaken.rxPayload {p : List Byte} {s : State} (h : PayloadTaken p s) (b : Byte)
    (hlt : p.length < s.rxLen.toNat) : PayloadTaken (p ++ [b]) (rxPayload b s) where
  index := by
    have hidx := h.index
    show (s.rxIdx + 1#16).toNat = _
    rw [List.length_append, List.length_singleton]
    bv_omega
  byte0 := latch_append rfl h.index h.byte0
  byte1 := latch_append rfl h.index h.byte1
  byte2 := latch_append rfl h.index h.byte2

/-- The rest of a payload, byte by byte: the last one ends it (R158). -/
theorem feeds_payload {taken ps : List Byte} {s : State} (hx : s.xstate = .sent) (hp : s.pstate = .payload)
    (ht : PayloadTaken taken s) (hne : ps ≠ []) (hlen : taken.length + ps.length = s.rxLen.toNat) :
    ∃ v, Feeds ps s v ∧ SameButPayload s v ∧ v.pstate = .ckA ∧ PayloadTaken (taken ++ ps) v ∧
      (v.rxCkA, v.rxCkB) = ps.foldl absorb (s.rxCkA, s.rxCkB) := by
  induction ps generalizing taken s with
  | nil => exact absurd rfl hne
  | cons b bs ih =>
    rw [List.length_cons] at hlen
    have hnext : parserNext b s = rxPayload b s := by simp only [parserNext, hp]
    have ht' := ht.rxPayload b (by omega)
    have hend : s.rxIdx + 1#16 = s.rxLen ↔ bs.length = 0 := by
      have hidx := ht'.index
      have hinc : (rxPayload b s).rxIdx = s.rxIdx + 1#16 := rfl
      rw [hinc, List.length_append, List.length_singleton] at hidx
      constructor
      · intro h
        rw [h] at hidx
        omega
      · intro h
        exact BitVec.eq_of_toNat_eq (by omega)
    by_cases hbs : bs = []
    · subst hbs
      have hck : (rxPayload b s).pstate = .ckA := if_pos (hend.mpr rfl)
      exact ⟨rxPayload b s, hnext ▸ feeds_single hx b, rfl, hck, ht', rfl⟩
    · have hpl : (rxPayload b s).pstate = .payload := if_neg (by rwa [hend, List.length_eq_zero_iff])
      have hrest : (taken ++ [b]).length + bs.length = (rxPayload b s).rxLen.toNat := by
        show _ = s.rxLen.toNat
        rw [List.length_append, List.length_singleton]
        omega
      obtain ⟨v, hfeed, hsame, hck, htv, hsum⟩ := ih (s := rxPayload b s) hx hpl ht' hbs hrest
      have hsame' : SameButPayload s (rxPayload b s) := rfl
      refine ⟨v, feeds_cons hx (hnext ▸ hfeed), hsame'.trans hsame, hck, ?_, hsum⟩
      rwa [List.append_assoc] at htv

/-! ## A frame but for its last byte -/

/-- The parser holds a frame of the given fields and waits for its last byte; nothing else of `s` has changed. -/
structure FrameHeld (s v : State) (cls id : Byte) (len : Half) (p : List Byte) (sums : Byte × Byte)
    (ckA : Byte) : Prop where
  same : SameButParser s v
  inputs : v.inputs = s.inputs
  position : v.pstate = .ckB
  cls : v.rxCls = cls
  id : v.rxId = id
  len : v.rxLen = len
  payload : PayloadTaken p v
  sums : (v.rxCkA, v.rxCkB) = sums
  recv : v.rxCkaRecv = ckA

/-- The parser behind a frame's header: the fields latched and absorbed, no payload byte taken (R151 to R157). -/
def headerHeld (cls id l0 l1 : Byte) (s : State) : State :=
  { s with
    pstate := if le16 l0 l1 = 0#16 then .ckA else .payload, rxCls := cls, rxId := id, rxLen := le16 l0 l1, rxIdx := 0#16
    rxCkA := (computeChecksum [cls, id, l0, l1]).1, rxCkB := (computeChecksum [cls, id, l0, l1]).2 }

/-- The six bytes of a header from P_SYNC1 (R151 to R157). -/
theorem feeds_header {s : State} (hx : s.xstate = .sent) (hp : s.pstate = .sync1) (cls id l0 l1 : Byte) :
    Feeds [Config.sync1, Config.sync2, cls, id, l0, l1] s (headerHeld cls id l0 l1 s) := by
  have hsync : parserNext Config.sync1 s = { s with pstate := .sync2 } := by
    simp only [parserNext, hp]
    rfl
  have hheld : parserNext l1 (rxLengthLow l0 (rxIdent id (rxClass cls { ckClear s with pstate := .cls }))) =
      headerHeld cls id l0 l1 s := by
    simp only [parserNext, rxLengthLow, rxLengthHigh, lo8_le16]
    rfl
  have hlast : Feeds [l1] (rxLengthLow l0 (rxIdent id (rxClass cls { ckClear s with pstate := .cls })))
      (headerHeld cls id l0 l1 s) := by
    rw [← hheld]
    exact feeds_single (by exact hx) l1
  refine feeds_cons hx ?_
  rw [hsync]
  exact feeds_cons hx (feeds_cons hx (feeds_cons hx (feeds_cons hx hlast)))

theorem payloadTaken_nil_headerHeld (cls id l0 l1 : Byte) (s : State) : PayloadTaken [] (headerHeld cls id l0 l1 s) where
  index := rfl
  byte0 := fun h => absurd h (by decide)
  byte1 := fun h => absurd h (by decide)
  byte2 := fun h => absurd h (by decide)

/-- Header and payload from P_SYNC1: the parser waits for the checksum and has absorbed all of it (R151 to R158). -/
theorem feeds_header_payload {s : State} (hx : s.xstate = .sent) (hp : s.pstate = .sync1) (cls id l0 l1 : Byte)
    (p : List Byte) (hlen : p.length = (le16 l0 l1).toNat) :
    ∃ u, Feeds ([Config.sync1, Config.sync2, cls, id, l0, l1] ++ p) s u ∧
      SameButPayload (headerHeld cls id l0 l1 s) u ∧ u.pstate = .ckA ∧ PayloadTaken p u ∧
      (u.rxCkA, u.rxCkB) = computeChecksum ([cls, id, l0, l1] ++ p) := by
  have hhead := feeds_header hx hp cls id l0 l1
  have htaken := payloadTaken_nil_headerHeld cls id l0 l1 s
  by_cases hnil : p = []
  · subst hnil
    have hzero : le16 l0 l1 = 0#16 := BitVec.eq_of_toNat_eq hlen.symm
    exact ⟨_, hhead, rfl, if_pos hzero, htaken, rfl⟩
  · have hpl : (headerHeld cls id l0 l1 s).pstate = .payload := by
      refine if_neg fun hzero => hnil (List.length_eq_zero_iff.mp ?_)
      rw [hlen, hzero]
      rfl
    have hrest : ([] : List Byte).length + p.length = (headerHeld cls id l0 l1 s).rxLen.toNat := by
      rw [List.length_nil, Nat.zero_add, hlen]
      rfl
    obtain ⟨u, hfeed, hsame, hck, hpt, hsum⟩ := feeds_payload (by exact hx) hpl htaken hnil hrest
    refine ⟨u, hhead.append hfeed, hsame, hck, hpt, hsum.trans ?_⟩
    simp only [computeChecksum, List.foldl_append]
    rfl

/-- All bytes of a frame but the last from P_SYNC1 (R151 to R159). -/
theorem feeds_frame_but_last {s : State} (hx : s.xstate = .sent) (hp : s.pstate = .sync1) (cls id l0 l1 ckA : Byte)
    (p : List Byte) (hlen : p.length = (le16 l0 l1).toNat) :
    ∃ v, Feeds ([Config.sync1, Config.sync2, cls, id, l0, l1] ++ p ++ [ckA]) s v ∧
      FrameHeld s v cls id (le16 l0 l1) p (computeChecksum ([cls, id, l0, l1] ++ p)) ckA := by
  obtain ⟨u, hfeed, hsame, hck, hpt, hsum⟩ := feeds_header_payload hx hp cls id l0 l1 p hlen
  have hxu : u.xstate = .sent := by rw [hsame]; exact hx
  have hnext : parserNext ckA u = rxFirstCheck ckA u := by simp only [parserNext, hck]
  refine ⟨rxFirstCheck ckA u, hfeed.append (hnext ▸ feeds_single hxu ckA), ?_⟩
  constructor
  case position => rfl
  case recv => rfl
  case sums => exact hsum
  case payload => exact ⟨hpt.index, hpt.byte0, hpt.byte1, hpt.byte2⟩
  all_goals rw [hsame]; rfl

/-! ## Assembled frames -/

/-- An assembled frame from P_SYNC1: it is held but for its last byte, and its checksum passes (R132, R151 to R161). -/
theorem feeds_assembled_frame {s : State} (hx : s.xstate = .sent) (hp : s.pstate = .sync1) {cls id : Byte}
    {p f : List Byte} (hf : assembleFrame cls id p = some f) :
    ∃ v ckB, Feeds f s (parserNext ckB v) ∧ checkOk ckB v = true ∧
      FrameHeld s v cls id (BitVec.ofNat 16 p.length) p (computeChecksum (frameBody cls id p))
        (computeChecksum (frameBody cls id p)).1 := by
  obtain ⟨hle, rfl⟩ := assembleFrame_eq_some hf
  have hlen16 : le16 (lo8 (BitVec.ofNat 16 p.length)) (hi8 (BitVec.ofNat 16 p.length)) = BitVec.ofNat 16 p.length :=
    le16_lo8_hi8 _
  have hlen : p.length = (le16 (lo8 (BitVec.ofNat 16 p.length)) (hi8 (BitVec.ofNat 16 p.length))).toNat := by
    rw [hlen16, BitVec.toNat_ofNat, Nat.mod_eq_of_lt (by omega)]
  obtain ⟨v, hfeed, hheld⟩ := feeds_frame_but_last hx hp cls id _ _ (computeChecksum (frameBody cls id p)).1 p hlen
  rw [hlen16] at hheld
  have hxv : v.xstate = .sent := by rw [hheld.same]; exact hx
  refine ⟨v, (computeChecksum (frameBody cls id p)).2, ?_, ?_, hheld⟩
  · have hall := hfeed.append (feeds_single hxv (computeChecksum (frameBody cls id p)).2)
    simpa [frameBody, lengthBytes, leBytes] using hall
  · have hsums : (v.rxCkA, v.rxCkB) = computeChecksum (frameBody cls id p) := hheld.sums
    simp [checkOk, hheld.recv, ← hsums]

/-! ## The poll -/

/-- After a POLL that sent its frame the exchange of R214 is open, and the receive stream is as it was. -/
theorem execPoll_opens {s u : State} (hok : s.draw.txok = true) (h : exec .poll s = .next u) :
    u.xstate = .sent ∧ u.pstate = .sync1 ∧ PollRequest u ∧ u.inputs = s.inputs := by
  obtain ⟨-, rfl⟩ := commandStep_next h
  rw [sendFrame_ok (s := accept s) (assembleFrame_of_le (by decide)) hok]
  exact ⟨rfl, rfl, ⟨rfl, rfl, rfl, rfl, rfl, rfl⟩, rfl⟩

/-- The last byte of a frame whose checksum passes classifies it, verified or not (R160, R161). -/
theorem parserNext_of_checkOk {b : Byte} {s : State} (hp : s.pstate = .ckB) (hok : checkOk b s = true) :
    parserNext b s = classify s.rxCls s.rxId s.rxLen { s with pstate := .sync1 } := by
  simp [parserNext, hp, hok]

/-- The expected response of an exchange that waits for no acknowledgement ends it Responded (R186). -/
theorem classify_response {cls id : Byte} {len : Half} {s : State} (hack : s.wantAck = false)
    (hresp : isResponse cls id len s = true) :
    classify cls id len s =
      { s with xstate := .responded, model := if 3 ≤ len.toNat then some s.rxP2 else none } := by
  unfold classify
  rw [namesRequest_of_not_wantAck hack, namesRequest_of_not_wantAck hack, hresp]
  rfl

/-- A poll's exchange takes a held response of at least three payload bytes, and with it payload byte 2 (R186, R196). -/
theorem parserNext_response {b : Byte} {s : State} {p : List Byte} (hreq : PollRequest s) (hp : s.pstate = .ckB)
    (hok : checkOk b s = true) (hcls : s.rxCls = Config.clsCfg) (hid : s.rxId = Config.idNav5)
    (hlen : s.rxLen.toNat = p.length) (ht : PayloadTaken p s) (h3 : 3 ≤ p.length) :
    parserNext b s = { s with pstate := .sync1, xstate := .responded, model := some (p.getD 2 0#8) } := by
  obtain ⟨hack, hwant, -, -, hec, hei⟩ := hreq
  have hresp : isResponse s.rxCls s.rxId s.rxLen { s with pstate := .sync1 } = true := by
    have h2 : 2 ≤ s.rxLen.toNat := by omega
    simp [isResponse, hwant, hcls, hid, hec, hei, h2]
  rw [parserNext_of_checkOk hp hok, classify_response (s := { s with pstate := .sync1 }) hack hresp,
    if_pos (hlen ▸ h3), ← ht.byte2 h3]

/-- Settles O46: the parser holds the frame when its last byte comes, the checksum passes, and payload byte 2 is latched. -/
theorem pollReturnsTheModelByte : Obligations.PollReturnsTheModelByte := by
  unfold Obligations.PollReturnsTheModelByte
  intro s u p f rest _ _ hok hexec h3 hf hin
  obtain ⟨hx, hp, hreq, hinu⟩ := execPoll_opens hok hexec
  obtain ⟨v, ckB, hfeed, hck, hheld⟩ := feeds_assembled_frame hx hp hf
  have hreqv : PollRequest v := by rw [hheld.same]; exact hreq
  have hlen : v.rxLen.toNat = p.length := by
    obtain ⟨hle, -⟩ := assembleFrame_eq_some hf
    rw [hheld.len, BitVec.toNat_ofNat, Nat.mod_eq_of_lt (by omega)]
  rw [parserNext_response hreqv hheld.position hck hheld.cls hheld.id hlen hheld.payload h3] at hfeed
  exact ⟨_, hfeed.run (hinu.trans hin), rfl, (readReg_model _).trans (readModel_responded rfl rfl), rfl⟩

end Sys2Proof.Machine
end

section
/-! PROOFS. What a step runs: the instruction the decoder reads from what is presented, and the parser's dispatch for every
byte of the receive stream. -/

namespace Sys2Proof.Machine

/-- A byte presented next goes to the parser, whichever byte it is (R150). -/
theorem step_rxByte {s : State} {b : Byte} {rest : List Event} (hin : s.inputs = .rxByte b :: rest) :
    step s = receive b { s with inputs := rest } :=
  (step_event hin).trans (consume_rxByte b _)

/-- A byte that decodes to a sync row runs that row (R104). -/
theorem consume_rxByte_of_decode {b : Byte} {i : Instr} (h : decode (.streamByte b) = .ok i) (s : State) :
    consume (.rxByte b) s = exec i s := by
  simp only [consume, h]

/-- The meaning of a received header's row is that header's classification (R92, R182). -/
theorem exec_decodeReceived (cls id : Byte) (len : Half) (s : State) :
    exec (decodeReceived cls id len) s = classifyStep cls id len s := by
  rw [← runReceived_eq]
  unfold decodeReceived runReceived
  repeat' split
  all_goals rfl

/-- The header word of a received frame decodes to the row of the fields it holds. -/
theorem decode_receive_headerWord (cls id : Byte) (len : Half) :
    decode (.receive (headerWord cls id len)) = .ok (decodeReceived cls id len) := by
  obtain ⟨hcls, hid, hlen⟩ := headerWord_bytes cls id len
  simp only [decode, headerWord_sync, if_true, hcls, hid, hlen]

/-- What is fetched at P_CKB: the latched header, in Sent and unless verification discards the frame (R160, R161). -/
theorem fetched_ckB {s : State} {b : Byte} {rest : List Event} {h : Header} (hin : s.inputs = .rxByte b :: rest)
    (hp : s.pstate = .ckB) (hf : fetched s = some (.receive h)) :
    s.xstate = .sent ∧ (s.verifyCk && !checkOk b s) = false ∧ h = headerWord s.rxCls s.rxId s.rxLen := by
  simp only [fetched, hin, hp] at hf
  by_cases hx : s.xstate = .sent
  · rw [if_pos hx] at hf
    cases hd : s.verifyCk && !checkOk b s with
    | true => simp [hd] at hf
    | false =>
      simp only [hd, Bool.false_eq_true, if_false, Option.some.injEq, Presented.receive.injEq] at hf
      exact ⟨hx, rfl, hf.symm⟩
  · rw [if_neg hx] at hf
    cases hf

/-- The last byte of a frame that verification does not discard runs the row of the latched header (R160). -/
theorem receive_ckB_of_not_discarded {b : Byte} {s : State} (hx : s.xstate = .sent) (hp : s.pstate = .ckB)
    (hd : (s.verifyCk && !checkOk b s) = false) :
    receive b s = exec (decodeReceived s.rxCls s.rxId s.rxLen) { s with pstate := .sync1 } := by
  have hnext : parserNext b s = classify s.rxCls s.rxId s.rxLen { s with pstate := .sync1 } := by
    simp [parserNext, hp, hd]
  rw [receive_eq_next hx, hnext, exec_decodeReceived]
  exact (classifyStep_sent (by exact hx)).symm

/-- Settles O6: a command and a sync byte by the consumption of their event, the end of a frame by what is fetched there,
and every byte by the parser's dispatch. -/
theorem stepRunsTheDecodedInstruction : Obligations.StepRunsTheDecodedInstruction := by
  unfold Obligations.StepRunsTheDecodedInstruction
  refine ⟨fun s cw p ok k rest i hin hdec => ?command, fun s b rest i hin hdec => ?syncByte,
    fun s b rest h i hin hp hf hdec => ?frameEnd, fun s b rest hin => step_rxByte hin⟩
  case command =>
    have hi : decodeCommand cw p = i := Except.ok.inj hdec
    rw [step_event hin, consume_cmd, hi]
  case syncByte => rw [step_event hin, consume_rxByte_of_decode hdec]
  case frameEnd =>
    obtain ⟨hx, hd, rfl⟩ := fetched_ckB hin hp hf
    have hi : decodeReceived s.rxCls s.rxId s.rxLen = i :=
      Except.ok.inj ((decode_receive_headerWord _ _ _).symm.trans hdec)
    rw [step_rxByte hin, ← hi]
    exact receive_ckB_of_not_discarded hx hp hd

end Sys2Proof.Machine
end

section
/-! PROOFS. The transmit stream: a command appends to it, no other event but `Reset` touches it. -/

namespace Sys2Proof.Machine

theorem SameButParser.tx {s t : State} (h : SameButParser s t) : t.tx = s.tx := by
  rw [h]

@[simp] theorem classify_tx (cls id : Byte) (len : Half) (s : State) : (classify cls id len s).tx = s.tx := by
  obtain ⟨-, heq⟩ | ⟨-, heq⟩ | ⟨-, heq⟩ | ⟨-, -, -, heq⟩ := classify_cases cls id len s <;> rw [heq]

@[simp] theorem parserNext_tx (b : Byte) (s : State) : (parserNext b s).tx = s.tx := by
  by_cases hp : s.pstate = .ckB
  · simp only [parserNext, hp]
    split
    · rfl
    · exact classify_tx _ _ _ _
  · exact (parserNext_sameButParser hp).tx

@[simp] theorem tick_tx (s : State) : (tick s).tx = s.tx := by
  obtain ⟨-, -, -, heq⟩ | ⟨-, -, -, heq⟩ | ⟨-, heq⟩ := tick_cases s <;> rw [heq]

@[simp] theorem writeReg_tx (n : Nat) (v : Word) (s : State) : (writeReg n v s).tx = s.tx := by
  match n with
  | 0 | 1 | 2 | _ + 3 => rfl

/-- Opening an exchange, or ending a command without one, sends nothing more. -/
theorem AfterSend.tx {after : State → State} (h : AfterSend after) (s : State) : (after s).tx = s.tx := by
  cases h with
  | nothing => rfl
  | poll => rfl
  | ack reqId known => rfl

/-- A command appends nothing, its frame, or the part of it that went out before the write failed (R63, R71). -/
theorem CommandEffect.tx_grows {effect : State → State} (h : CommandEffect effect) (s : State) :
    s.tx <+: (effect s).tx := by
  cases h with
  | illegal => exact ⟨[], List.append_nil s.tx⟩
  | send cls id p after hafter =>
    obtain ⟨-, heq⟩ | ⟨f, -, ⟨-, heq⟩ | ⟨-, heq⟩⟩ := sendFrame_cases cls id p after s <;> rw [heq]
    · exact ⟨[], List.append_nil s.tx⟩
    · rw [hafter.tx]
      exact ⟨f, rfl⟩
    · exact ⟨failedPart s.draw.k f, rfl⟩

/-- A command is taken outside Sent only, and `tx` only grows (R73, R212). -/
theorem consume_cmd_tx {cw : Word} {p : List Byte} {ok : Bool} {k : Nat} {s t : State}
    (h : consume (.cmd cw p ok k) s = .next t) : s.xstate ≠ .sent ∧ s.tx <+: t.tx := by
  obtain ⟨effect, heff, hexec⟩ := exec_decodeCommand cw p
  rw [consume_cmd, hexec] at h
  obtain ⟨hready, rfl⟩ := commandStep_next h
  exact ⟨((cmdReady_iff _).mp hready).1, heff.tx_grows (accept { s with draw := ⟨ok, k⟩ })⟩

/-- Any event but `Reset` and `Cmd` leaves `tx` as it was (R71). -/
theorem consume_tx_of_not_cmd {e : Event} {s t : State} (hreset : e ≠ .reset) (hcmd : ∀ cw p ok k, e ≠ .cmd cw p ok k)
    (h : consume e s = .next t) : t.tx = s.tx := by
  cases e with
  | reset => exact absurd rfl hreset
  | cmd cw p ok k => exact absurd rfl (hcmd cw p ok k)
  | cfgWr n v =>
    rw [consume_cfgWr] at h
    by_cases hx : s.xstate = .sent
    · rw [cfgWrStep_sent hx] at h
      cases h
    · rw [cfgWrStep_not_sent hx] at h
      cases h
      exact writeReg_tx n v s
  | rxByte b =>
    rw [consume_rxByte] at h
    obtain ⟨-, rfl⟩ := receive_next h
    exact parserNext_tx b s
  | rxFail =>
    rw [consume_rxFail] at h
    by_cases hx : s.xstate = .sent
    · rw [rxFailStep_sent hx] at h
      cases h
      rfl
    · rw [rxFailStep_not_sent hx] at h
      cases h
  | tick =>
    rw [consume_tick] at h
    cases h
    exact tick_tx s

/-- Settles O8: a command is refused in Sent and only appends elsewhere; every other event keeps `tx`. -/
theorem transmitStreamOnlyGrows : Obligations.TransmitStreamOnlyGrows := by
  unfold Obligations.TransmitStreamOnlyGrows
  intro s t e rest hin hreset hstep
  rw [step_event hin] at hstep
  by_cases hcmd : ∃ cw p ok k, e = .cmd cw p ok k
  · obtain ⟨cw, p, ok, k, rfl⟩ := hcmd
    obtain ⟨hx, bytes, htx⟩ := consume_cmd_tx hstep
    exact ⟨bytes, htx.symm, fun hsent => absurd hsent hx, fun hno => absurd rfl (hno cw p ok k)⟩
  · have htx := consume_tx_of_not_cmd hreset (fun cw p ok k he => hcmd ⟨cw, p, ok, k, he⟩) hstep
    exact ⟨[], htx.trans (List.append_nil s.tx).symm, fun _ => rfl, fun _ => rfl⟩

end Sys2Proof.Machine
end

section
/-! PROOFS. The decoder of command words, by the four bytes of a word: every row's mask takes whole bytes. -/

namespace Sys2Proof.Machine

/-! ## Rows on words put together from parts -/

theorem bitVec_append_inj {m n : Nat} {x x' : BitVec m} {y y' : BitVec n} :
    x ++ y = x' ++ y' ↔ x = x' ∧ y = y' := by
  refine ⟨fun h => ?_, fun ⟨hx, hy⟩ => by rw [hx, hy]⟩
  have hleft := congrArg (BitVec.extractLsb' n m) h
  have hright := congrArg (BitVec.extractLsb' 0 n) h
  rw [BitVec.extractLsb'_append_eq_left, BitVec.extractLsb'_append_eq_left] at hleft
  rw [BitVec.extractLsb'_append_eq_right, BitVec.extractLsb'_append_eq_right] at hright
  exact ⟨hleft, hright⟩

/-- A row's mask and match apply part by part (R104). -/
theorem rowApplies_append {m n : Nat} (mask pattern word : BitVec m) (mask' pattern' word' : BitVec n) :
    rowApplies (mask ++ mask') (pattern ++ pattern') (word ++ word') = true ↔
      rowApplies mask pattern word = true ∧ rowApplies mask' pattern' word' = true := by
  simp only [rowApplies, beq_iff_eq, BitVec.and_append, bitVec_append_inj]

/-- A part the mask takes whole must be the match. -/
theorem rowApplies_ones {w : Nat} (pattern word : BitVec w) :
    rowApplies (BitVec.allOnes w) pattern word = true ↔ word = pattern := by
  rw [rowApplies, BitVec.and_allOnes, beq_iff_eq]

/-- A part the mask leaves out is free. -/
theorem rowApplies_zero {w : Nat} (word : BitVec w) : rowApplies 0#w 0#w word = true := by
  rw [rowApplies, BitVec.and_zero, beq_self_eq_true]

/-! ## Command words byte by byte -/

/-- A command word from its bytes, the one with `op` first (R96). -/
def wordOf (b3 b2 b1 b0 : Byte) : Word := b3 ++ b2 ++ b1 ++ b0

theorem exists_wordOf (cw : Word) : ∃ b3 b2 b1 b0, cw = wordOf b3 b2 b1 b0 := by
  refine ⟨cw.extractLsb' 24 8, cw.extractLsb' 16 8, cw.extractLsb' 8 8, cw.extractLsb' 0 8, ?_⟩
  apply BitVec.eq_of_toNat_eq
  have hcw : cw.toNat < 2 ^ 32 := cw.isLt
  simp only [wordOf, append_toNat, BitVec.extractLsb'_toNat, Nat.shiftRight_eq_div_pow]
  omega

theorem wordOf_toNat (b3 b2 b1 b0 : Byte) :
    (wordOf b3 b2 b1 b0).toNat = 2 ^ 24 * b3.toNat + 2 ^ 16 * b2.toNat + 2 ^ 8 * b1.toNat + b0.toNat := by
  simp only [wordOf, append_toNat]
  omega

/-- A row on a command word is a row on each of its bytes. -/
theorem rowApplies_wordOf (m3 m2 m1 m0 p3 p2 p1 p0 b3 b2 b1 b0 : Byte) :
    rowApplies (wordOf m3 m2 m1 m0) (wordOf p3 p2 p1 p0) (wordOf b3 b2 b1 b0) = true ↔
      rowApplies m3 p3 b3 = true ∧ rowApplies m2 p2 b2 = true ∧ rowApplies m1 p1 b1 = true ∧
        rowApplies m0 p0 b0 = true := by
  simp only [wordOf, rowApplies_append, and_assoc]

/-- The operand fields of a command word: `a`, the high byte of `m`, and `m` (R96). -/
theorem wordOf_fields (b3 b2 b1 b0 : Byte) :
    (wordOf b3 b2 b1 b0).extractLsb' 16 8 = b2 ∧ (wordOf b3 b2 b1 b0).extractLsb' 8 8 = b1 ∧
      (wordOf b3 b2 b1 b0).extractLsb' 0 16 = b1 ++ b0 := by
  refine ⟨?_, ?_, ?_⟩ <;>
  · apply BitVec.eq_of_toNat_eq
    simp only [BitVec.extractLsb'_toNat, wordOf_toNat, Nat.shiftRight_eq_div_pow, append_toNat]
    omega

/-- The rows of R97 on the bytes of a word: bits 31:24 hold `op` and the reserved bits, the next byte is `a`, and the
last two are `m`. -/
theorem decodeCommand_wordOf (b3 b2 b1 b0 : Byte) (p : List Byte) :
    decodeCommand (wordOf b3 b2 b1 b0) p =
      if b3 = 0x10#8 ∧ b2 = 0#8 ∧ b1 = 0#8 ∧ b0 = 0#8 then .poll
      else if b3 = 0x20#8 ∧ b1 = 0#8 ∧ b0 = 0#8 then .set b2
      else if b3 = 0x30#8 then .rstf b2 (b1 ++ b0)
      else if b3 = 0x40#8 then .rstc b2 (b1 ++ b0)
      else if b3 = 0x50#8 ∧ b0 = 0#8 then .raw b2 b1 p
      else .cwIllegal (wordOf b3 b2 b1 b0) := by
  have ones (pat b : Byte) : rowApplies 0xFF#8 pat b = true ↔ b = pat := rowApplies_ones pat b
  have free (b : Byte) : rowApplies 0#8 0#8 b = true := rowApplies_zero b
  have hpoll := rowApplies_wordOf 0xFF#8 0xFF#8 0xFF#8 0xFF#8 0x10#8 0#8 0#8 0#8 b3 b2 b1 b0
  have hset := rowApplies_wordOf 0xFF#8 0#8 0xFF#8 0xFF#8 0x20#8 0#8 0#8 0#8 b3 b2 b1 b0
  have hrstf := rowApplies_wordOf 0xFF#8 0#8 0#8 0#8 0x30#8 0#8 0#8 0#8 b3 b2 b1 b0
  have hrstc := rowApplies_wordOf 0xFF#8 0#8 0#8 0#8 0x40#8 0#8 0#8 0#8 b3 b2 b1 b0
  have hraw := rowApplies_wordOf 0xFF#8 0#8 0#8 0xFF#8 0x50#8 0#8 0#8 0#8 b3 b2 b1 b0
  obtain ⟨ha, hid, hm⟩ := wordOf_fields b3 b2 b1 b0
  simp only [ones, free, and_true, true_and] at hpoll hset hrstf hrstc hraw
  simp only [decodeCommand, ha, hid, hm]
  simp only [← hpoll, ← hset, ← hrstf, ← hrstc, ← hraw]
  rfl

/-! ## Reserved words -/

/-- The reserved words of R98, by the fields of R96 as numbers. -/
def Reserved (cw : Word) : Prop :=
  let op := cw.toNat / 2 ^ 28
  let reserved := cw.toNat / 2 ^ 24 % 16
  let a := cw.toNat / 2 ^ 16 % 256
  let m := cw.toNat % 2 ^ 16
  op = 0 ∨ 6 ≤ op ∨ reserved ≠ 0 ∨ (op = 1 ∧ (a ≠ 0 ∨ m ≠ 0)) ∨ (op = 2 ∧ m ≠ 0) ∨ (op = 5 ∧ m % 256 ≠ 0)

/-- The fields of a word as numbers, from its bytes (R96). -/
theorem wordOf_toNat_fields (b3 b2 b1 b0 : Byte) :
    (wordOf b3 b2 b1 b0).toNat / 2 ^ 28 = b3.toNat / 16 ∧ (wordOf b3 b2 b1 b0).toNat / 2 ^ 24 % 16 = b3.toNat % 16 ∧
      (wordOf b3 b2 b1 b0).toNat / 2 ^ 16 % 256 = b2.toNat ∧
      (wordOf b3 b2 b1 b0).toNat % 2 ^ 16 = 256 * b1.toNat + b0.toNat := by
  rw [wordOf_toNat]
  omega

/-- Only reserved words reach the catch-all row (R98). -/
theorem decodeCommand_eq_cwIllegal_iff (cw : Word) (p : List Byte) :
    decodeCommand cw p = .cwIllegal cw ↔ Reserved cw := by
  obtain ⟨b3, b2, b1, b0, rfl⟩ := exists_wordOf cw
  obtain ⟨hop, hres, ha, hm⟩ := wordOf_toNat_fields b3 b2 b1 b0
  simp only [decodeCommand_wordOf, Reserved, hop, hres, ha, hm, ← BitVec.toNat_inj, BitVec.toNat_ofNat]
  clear hop hres ha hm
  split_ifs with hpoll hset hrstf hrstc hraw
  case neg =>
    simp only [true_iff]
    omega
  all_goals
    simp only [false_iff]
    omega

/-- The words that are no legal command word are the reserved ones (R98). -/
theorem legalCommandWord_eq_false_iff (cw : Word) : legalCommandWord cw = false ↔ Reserved cw := by
  have hop : cw.toNat / 2 ^ 28 % 2 ^ 4 = cw.toNat / 2 ^ 28 := Nat.mod_eq_of_lt (by have := cw.isLt; omega)
  simp only [legalCommandWord, Reserved, ← Bool.not_eq_true, Bool.and_eq_true, Bool.or_eq_true, beq_iff_eq,
    ← BitVec.toNat_inj, BitVec.extractLsb'_toNat, BitVec.toNat_ofNat, Nat.shiftRight_eq_div_pow, pow_zero, Nat.div_one, hop]
  omega

/-- Settles O21: the catch-all row takes the reserved words, and any other word meets a row whose `op` byte is known. -/
theorem reservedWordsAreExactlyIllegal : Obligations.ReservedWordsAreExactlyIllegal := by
  unfold Obligations.ReservedWordsAreExactlyIllegal
  intro cw p
  refine ⟨decodeCommand_eq_cwIllegal_iff cw p, fun hlegal => ?_⟩
  obtain ⟨b3, b2, b1, b0, rfl⟩ := exists_wordOf cw
  obtain ⟨hop, -, ha, hm⟩ := wordOf_toNat_fields b3 b2 b1 b0
  have ha8 : BitVec.ofNat 8 b2.toNat = b2 := by rw [BitVec.ofNat_toNat, BitVec.setWidth_eq]
  have hid8 : BitVec.ofNat 8 ((256 * b1.toNat + b0.toNat) / 256) = b1 := by
    apply BitVec.eq_of_toNat_eq
    rw [BitVec.toNat_ofNat]
    omega
  have hm16 : BitVec.ofNat 16 (256 * b1.toNat + b0.toNat) = b1 ++ b0 := by
    apply BitVec.eq_of_toNat_eq
    rw [BitVec.toNat_ofNat, append_toNat]
    omega
  rw [hop, ha, hm, ha8, hid8, hm16]
  rw [decodeCommand_wordOf] at hlegal ⊢
  split_ifs at hlegal ⊢ with hpoll hset hrstf hrstc hraw
  · exact .inl ⟨by simp [hpoll], rfl⟩
  · exact .inr (.inl ⟨by simp [hset], rfl⟩)
  · exact .inr (.inr (.inl ⟨by simp [hrstf], rfl⟩))
  · exact .inr (.inr (.inr (.inl ⟨by simp [hrstc], rfl⟩)))
  · exact .inr (.inr (.inr (.inr ⟨by simp [hraw], rfl⟩)))
  · exact absurd rfl hlegal

/-- Settles O60: the payload stands in RAW's row only, and that row needs `op` 5. -/
theorem payloadIgnoredButByRaw : Obligations.PayloadIgnoredButByRaw := by
  unfold Obligations.PayloadIgnoredButByRaw
  intro cw p q hop
  obtain ⟨b3, b2, b1, b0, rfl⟩ := exists_wordOf cw
  have hraw : ¬(b3 = 0x50#8 ∧ b0 = 0#8) := by
    rintro ⟨rfl, -⟩
    rw [wordOf_toNat] at hop
    bv_omega
  rw [decodeCommand_wordOf, decodeCommand_wordOf, if_neg hraw, if_neg hraw]

end Sys2Proof.Machine
end

section
/-! PROOFS. Decoding what the encoder gives: command words by their bytes, header words by their class, id and length. -/

namespace Sys2Proof.Machine

/-! ## Encoded command words -/

/-- A command word's bytes: `op` above the reserved zeros, `a`, and `m` with its high byte first (R96). -/
theorem commandWord_eq_wordOf (op : BitVec 4) (a : Byte) (m : Half) :
    commandWord op a m = wordOf (op ++ 0#4) a (hi8 m) (lo8 m) := by
  have hm : m.toNat = 2 ^ 8 * (hi8 m).toNat + (lo8 m).toNat := by
    rw [← append_toNat]
    exact congrArg BitVec.toNat (le16_lo8_hi8 m).symm
  apply BitVec.eq_of_toNat_eq
  rw [wordOf_toNat]
  simp only [commandWord, append_toNat, hm, BitVec.toNat_ofNat]
  omega

theorem hi8_append_lo8 (m : Half) : hi8 m ++ lo8 m = m := le16_lo8_hi8 m

theorem decodeCommand_poll (p : List Byte) : decodeCommand (commandWord 1#4 0#8 0#16) p = .poll := by
  rw [commandWord_eq_wordOf, decodeCommand_wordOf]
  rfl

theorem decodeCommand_set (a : Byte) (p : List Byte) : decodeCommand (commandWord 2#4 a 0#16) p = .set a := by
  rw [commandWord_eq_wordOf, decodeCommand_wordOf]
  rfl

theorem decodeCommand_rstf (a : Byte) (m : Half) (p : List Byte) :
    decodeCommand (commandWord 3#4 a m) p = .rstf a m := by
  rw [commandWord_eq_wordOf, decodeCommand_wordOf, hi8_append_lo8]
  rfl

theorem decodeCommand_rstc (a : Byte) (m : Half) (p : List Byte) :
    decodeCommand (commandWord 4#4 a m) p = .rstc a m := by
  rw [commandWord_eq_wordOf, decodeCommand_wordOf, hi8_append_lo8]
  rfl

theorem decodeCommand_raw (a id : Byte) (p : List Byte) :
    decodeCommand (commandWord 5#4 a (id ++ 0#8)) p = .raw a id p := by
  have hlo : lo8 (id ++ 0#8) = 0#8 := lo8_le16 0#8 id
  have hhi : hi8 (id ++ 0#8) = id := BitVec.extractLsb'_append_eq_left
  rw [commandWord_eq_wordOf, decodeCommand_wordOf, hlo, hhi]
  rfl

/-! ## Headers -/

theorem headerWord_inj {c c' i i' : Byte} {l l' : Half} :
    headerWord c i l = headerWord c' i' l' ↔ c = c' ∧ i = i' ∧ l = l' := by
  refine ⟨fun h => ?_, fun ⟨hc, hi, hl⟩ => by rw [hc, hi, hl]⟩
  obtain ⟨hcls, hid, hlen⟩ := headerWord_bytes c i l
  obtain ⟨hcls', hid', hlen'⟩ := headerWord_bytes c' i' l'
  rw [h] at hcls hid hlen
  exact ⟨hcls.symm.trans hcls', hid.symm.trans hid', hlen.symm.trans hlen'⟩

/-- A row with a whole header for its match takes that header only (R92, R104). -/
theorem rowApplies_headerWord (c c' i i' : Byte) (l l' : Half) :
    rowApplies 0xFFFFFFFFFFFF#48 (headerWord c' i' l') (headerWord c i l) = true ↔ c = c' ∧ i = i' ∧ l = l' :=
  (rowApplies_ones _ _).trans headerWord_inj

/-- The headers that have no transmit row of their own (R92). -/
theorem knownTransmitted_eq_false_iff (c i : Byte) (l : Half) :
    knownTransmitted c i l.toNat = false ↔
      ¬(c = 0x06#8 ∧ i = 0x24#8 ∧ l = 0#16) ∧ ¬(c = 0x06#8 ∧ i = 0x24#8 ∧ l = 36#16) ∧
        ¬(c = 0x06#8 ∧ i = 0x04#8 ∧ l = 4#16) := by
  rw [← Bool.not_eq_true]
  simp only [knownTransmitted, Config.clsCfg, Config.idNav5, Config.nav5SetLen, Config.idRst, Config.rstLen,
    Bool.or_eq_true, Bool.and_eq_true, beq_iff_eq, ← BitVec.toNat_inj, BitVec.toNat_ofNat]
  omega

/-- A header without a row of its own, with as many bytes as its length says, is RAW's (R92, R218). -/
theorem decodeTransmit_raw {c i : Byte} {l : Half} {p : List Byte} (hknown : knownTransmitted c i l.toNat = false)
    (hlen : p.length = l.toNat) : decodeTransmit (headerWord c i l) p = .ok (.txRaw c i p) := by
  obtain ⟨hpoll, hset, hrst⟩ := (knownTransmitted_eq_false_iff c i l).mp hknown
  have hpoll' : ¬rowApplies 0xFFFFFFFFFFFF#48 0xB56206240000#48 (headerWord c i l) = true :=
    mt (rowApplies_headerWord c 0x06#8 i 0x24#8 l 0#16).mp hpoll
  have hset' : ¬rowApplies 0xFFFFFFFFFFFF#48 0xB56206242400#48 (headerWord c i l) = true :=
    mt (rowApplies_headerWord c 0x06#8 i 0x24#8 l 36#16).mp hset
  have hrst' : ¬rowApplies 0xFFFFFFFFFFFF#48 0xB56206040400#48 (headerWord c i l) = true :=
    mt (rowApplies_headerWord c 0x06#8 i 0x04#8 l 4#16).mp hrst
  obtain ⟨hcls, hid, hl⟩ := headerWord_bytes c i l
  have hops : p.length = transmitOperands (headerWord c i l) := by
    rw [transmitOperands, if_neg hpoll', if_neg hset', if_neg hrst', hl, hlen]
  rw [decodeTransmit, if_neg (not_not_intro hops), if_neg hpoll', if_neg hset', if_neg hrst', if_pos (headerWord_sync c i l),
    hcls, hid]

/-- A header without a receive row of its own is UBX.RX.OTHER's (R92). -/
theorem decodeReceived_other {c i : Byte} (h : knownReceived c i = false) (l : Half) :
    decodeReceived c i l = .rxOther c i l := by
  unfold decodeReceived
  split_ifs with hack hnak hresp
  case neg => rfl
  all_goals simp_all [knownReceived]

/-- Settles O58: by the row of the instruction; a word of a catch-all row is one no earlier row takes. -/
theorem decodeOfEncodeIsTheInstruction : Obligations.DecodeOfEncodeIsTheInstruction := by
  unfold Obligations.DecodeOfEncodeIsTheInstruction
  intro i hwf
  cases i with
  | txNav5Poll => rfl
  | txNav5Set model => rfl
  | txCfgRst t mask =>
    have hdec : decode (encode (.txCfgRst t mask)) = .ok (.txCfgRst t (le16 (lo8 mask) (hi8 mask))) := rfl
    rw [hdec, le16_lo8_hi8]
  | txRaw cls id payload =>
    rw [Instr.wf, Bool.and_eq_true, decide_eq_true_eq, Bool.not_eq_true'] at hwf
    obtain ⟨(hle : payload.length ≤ 65535), hknown⟩ := hwf
    have hlen : (BitVec.ofNat 16 payload.length).toNat = payload.length := by
      rw [BitVec.toNat_ofNat, Nat.mod_eq_of_lt (Nat.lt_succ_of_le hle)]
    exact decodeTransmit_raw (by rw [hlen]; exact hknown) hlen.symm
  | rxAckAck len => exact decode_receive_headerWord _ _ _
  | rxAckNak len => exact decode_receive_headerWord _ _ _
  | rxNav5Resp len => exact decode_receive_headerWord _ _ _
  | rxOther cls id len =>
    exact (decode_receive_headerWord _ _ _).trans (congrArg _ (decodeReceived_other (by simpa [Instr.wf] using hwf) len))
  | poll => exact congrArg Except.ok (decodeCommand_poll [])
  | set model => exact congrArg Except.ok (decodeCommand_set model [])
  | rstf t mask => exact congrArg Except.ok (decodeCommand_rstf t mask [])
  | rstc t mask => exact congrArg Except.ok (decodeCommand_rstc t mask [])
  | raw cls id payload => exact congrArg Except.ok (decodeCommand_raw cls id payload)
  | cwIllegal cw =>
    have hlegal : legalCommandWord cw = false := by simpa [Instr.wf] using hwf
    exact congrArg Except.ok ((decodeCommand_eq_cwIllegal_iff cw []).mpr ((legalCommandWord_eq_false_iff cw).mp hlegal))
  | rxSync1 => rfl
  | rxSync2 => rfl
  | ckClr => rfl
  | ckAbs b => rfl

/-- Settles O59: each word is closed data, so the decoder is evaluated on it. -/
theorem writtenWordsDecode : Obligations.WrittenWordsDecode := by
  unfold Obligations.WrittenWordsDecode
  decide

end Sys2Proof.Machine
end

section
/-! PROOFS. The frames of the fixed transmit rows, byte for byte, and the transmit rows that send them. -/

namespace Sys2Proof.Machine

/-! ## The fixed frames -/

/-- Zero bytes leave `ck_a` and add it to `ck_b` once each (R112). -/
theorem foldl_absorb_zeros (n : Nat) (a b : Byte) :
    (List.replicate n 0#8).foldl absorb (a, b) = (a, b + BitVec.ofNat 8 n * a) := by
  induction n generalizing b with
  | zero => simp
  | succ n ih =>
    have hzero : absorb (a, b) 0#8 = (a, b + a) := by simp [absorb]
    have hsum : b + a + BitVec.ofNat 8 n * a = b + BitVec.ofNat 8 (n + 1) * a := by
      rw [BitVec.ofNat_add, BitVec.add_mul, BitVec.one_mul, BitVec.add_assoc, BitVec.add_comm a]
    rw [List.replicate_succ, List.foldl_cons, hzero, ih, hsum]

/-- The poll frame (R133). -/
theorem assembleFrame_poll :
    assembleFrame Config.clsCfg Config.idNav5 nav5PollPayload =
      some [0xB5#8, 0x62#8, 0x06#8, 0x24#8, 0x00#8, 0x00#8, 0x2A#8, 0x84#8] := by
  decide

/-- The set frame's body: the model byte behind six fixed header and mask bytes, one fixed byte and 32 zeros (R134). -/
theorem frameBody_set (m : Byte) :
    frameBody Config.clsCfg Config.idNav5 (nav5SetPayload m) =
      [0x06#8, 0x24#8, 0x24#8, 0x00#8, 0x01#8, 0x00#8, m, 0x02#8] ++ List.replicate 32 0#8 := by
  rw [frameBody, nav5SetPayload_length]
  rfl

/-- The set frame's checksum: eight bytes, then 32 zeros (R134). -/
theorem computeChecksum_set (m : Byte) :
    computeChecksum (frameBody Config.clsCfg Config.idNav5 (nav5SetPayload m)) = (0x51#8 + m, 0x2A#8 + 34#8 * m) := by
  have hhead : [0x06#8, 0x24#8, 0x24#8, 0x00#8, 0x01#8, 0x00#8, m, 0x02#8].foldl absorb (0#8, 0#8) =
      (0x51#8 + m, 0x0A#8 + 2#8 * m) := by
    simp only [List.foldl_cons, List.foldl_nil, absorb, Prod.mk.injEq]
    constructor <;> grind
  rw [frameBody_set, computeChecksum, List.foldl_append, hhead, foldl_absorb_zeros, Prod.mk.injEq]
  exact ⟨rfl, by grind⟩

/-- The set frame (R134). -/
theorem assembleFrame_set (m : Byte) :
    assembleFrame Config.clsCfg Config.idNav5 (nav5SetPayload m) =
      some ([0xB5#8, 0x62#8, 0x06#8, 0x24#8, 0x24#8, 0x00#8, 0x01#8, 0x00#8, m, 0x02#8] ++
        List.replicate 32 0x00#8 ++ [0x51#8 + m, 0x2A#8 + 34#8 * m]) := by
  rw [assembleFrame_of_le (by rw [nav5SetPayload_length]; decide), computeChecksum_set, frameBody_set]
  rfl

theorem lo8_eq_setWidth (v : Half) : lo8 v = v.setWidth 8 := (BitVec.setWidth_eq_extractLsb' (by decide)).symm

theorem hi8_eq_setWidth (v : Half) : hi8 v = (v >>> 8).setWidth 8 := by
  apply BitVec.eq_of_toNat_eq
  rw [hi8, BitVec.extractLsb'_toNat, BitVec.toNat_setWidth, BitVec.toNat_ushiftRight]

/-- The reset frame's body, the mask low byte first (R135). -/
theorem frameBody_rst (t : Byte) (mask : Half) :
    frameBody Config.clsCfg Config.idRst (rstPayload t mask) =
      [0x06#8, 0x04#8, 0x04#8, 0x00#8, mask.setWidth 8, (mask >>> 8).setWidth 8, t, 0x00#8] := by
  rw [frameBody, rstPayload_length, ← lo8_eq_setWidth, ← hi8_eq_setWidth]
  rfl

/-- The reset frame's checksum, for any two mask bytes (R135). -/
theorem computeChecksum_rst (lo hi t : Byte) :
    computeChecksum [0x06#8, 0x04#8, 0x04#8, 0x00#8, lo, hi, t, 0x00#8] =
      (0x0E#8 + lo + hi + t, 0x64#8 + 4#8 * lo + 3#8 * hi + 2#8 * t) := by
  simp only [computeChecksum, List.foldl_cons, List.foldl_nil, absorb, Prod.mk.injEq]
  constructor <;> grind

/-- The reset frame (R135). -/
theorem assembleFrame_rst (t : Byte) (mask : Half) :
    assembleFrame Config.clsCfg Config.idRst (rstPayload t mask) =
      some [0xB5#8, 0x62#8, 0x06#8, 0x04#8, 0x04#8, 0x00#8, mask.setWidth 8, (mask >>> 8).setWidth 8, t, 0x00#8,
        0x0E#8 + mask.setWidth 8 + (mask >>> 8).setWidth 8 + t,
        0x64#8 + 4#8 * mask.setWidth 8 + 3#8 * (mask >>> 8).setWidth 8 + 2#8 * t] := by
  rw [assembleFrame_of_le (by rw [rstPayload_length]; decide), frameBody_rst, computeChecksum_rst]
  rfl

/-! ## The transmit rows -/

/-- A transmit row whose write succeeds appends its frame to `tx` and does nothing else (R211). -/
theorem transmitStep_sends {cls id : Byte} {p f : List Byte} {s : State} (hsent : s.xstate ≠ .sent)
    (hfailed : s.xstate ≠ .failed) (hok : s.draw.txok = true) (hframe : assembleFrame cls id p = some f) :
    transmitStep cls id p s = .next (txWrite f s) := by
  rw [transmitStep_ready ((cmdReady_iff s).mpr ⟨hsent, hfailed⟩), sendFrame_ok hframe hok]

/-- Settles O22: each row sends the frame of its payload builder. -/
theorem transmitRowsSendTheirFrame : Obligations.TransmitRowsSendTheirFrame := by
  unfold Obligations.TransmitRowsSendTheirFrame
  intro s hsent hfailed hok
  exact ⟨transmitStep_sends hsent hfailed hok assembleFrame_poll,
    fun m => transmitStep_sends hsent hfailed hok (assembleFrame_set m),
    fun t mask => transmitStep_sends hsent hfailed hok (assembleFrame_rst t mask),
    fun c i p f hframe => transmitStep_sends hsent hfailed hok hframe⟩

end Sys2Proof.Machine
end

section
/-! PROOFS. Noise before an acknowledgement: the scan passes bytes without a sync sequence and frames that are discarded,
and is then where it was. -/

namespace Sys2Proof.Machine

/-! ## Passing bytes -/

theorem Feeds.nil (s : State) : Feeds [] s s := fun _ => rfl

/-- The bytes lead back to P_SYNC1 and change only the parser's registers. -/
def Passes (bytes : List Byte) (s : State) : Prop := ∃ v, Feeds bytes s v ∧ SameButParser s v ∧ v.pstate = .sync1

theorem SameButParser.trans {s u v : State} (h : SameButParser s u) (h' : SameButParser u v) : SameButParser s v := by
  rw [h', h]
  rfl

theorem SameButParser.xstate {s u : State} (h : SameButParser s u) : u.xstate = s.xstate := by
  rw [h]

theorem SameButParser.noise {s u : State} (h : SameButParser s u) {bytes : List Byte} (hn : Noise s bytes) :
    Noise u bytes := by
  rw [h]
  exact hn

/-! ## Bytes without a sync sequence -/

/-- The position of the sync detector behind a byte that completes no sync sequence (R151, R152). -/
def scanPosition (last : Byte) : PState := if last = Config.sync1 then .sync2 else .sync1

/-- Two neighbouring bytes that are not the sync sequence. -/
def NotSync (a b : Byte) : Prop := ¬(a = Config.sync1 ∧ b = Config.sync2)

theorem NoSync.isChain {bytes : List Byte} (h : NoSync bytes) : List.IsChain NotSync bytes := by
  rw [List.isChain_iff_getElem]
  intro i hi ⟨ha, hb⟩
  refine h.1 i ⟨?_, ?_⟩
  · rw [List.getElem?_eq_getElem (by omega), ha]
    rfl
  · rw [List.getElem?_eq_getElem hi, hb]
    rfl

/-- The sync detector behind byte `a` takes a byte that completes no sync sequence with it (R151, R152). -/
theorem parserNext_scan {a b : Byte} {s : State} (hp : s.pstate = scanPosition a) (h : NotSync a b) :
    parserNext b s = { s with pstate := scanPosition b } := by
  by_cases ha : a = Config.sync1
  · have hp2 : s.pstate = .sync2 := by rw [hp, scanPosition, if_pos ha]
    have hb : b ≠ Config.sync2 := fun hb => h ⟨ha, hb⟩
    simp [parserNext, hp2, rxSecondSync, hb, scanPosition, Config.syncOverlap]
  · have hp1 : s.pstate = .sync1 := by rw [hp, scanPosition, if_neg ha]
    simp only [parserNext, hp1]
    rfl

/-- Bytes without a sync sequence, behind byte `a`: only the detector's position follows them (R95, R152). -/
theorem feeds_scan {a : Byte} {bs : List Byte} {s : State} (hx : s.xstate = .sent) (hp : s.pstate = scanPosition a)
    (h : List.IsChain NotSync (a :: bs)) : Feeds bs s { s with pstate := scanPosition (bs.getLastD a) } := by
  induction bs generalizing a s with
  | nil =>
    have hsame : { s with pstate := scanPosition a } = s := by rw [← hp]
    exact hsame ▸ Feeds.nil s
  | cons b bs ih =>
    obtain ⟨hab, hrest⟩ := List.isChain_cons_cons.mp h
    rw [List.getLastD_cons]
    refine feeds_cons hx ?_
    rw [parserNext_scan hp hab]
    exact ih (s := { s with pstate := scanPosition b }) hx rfl hrest

theorem NoSync.passes {bytes : List Byte} (h : NoSync bytes) {s : State} (hx : s.xstate = .sent)
    (hp : s.pstate = .sync1) : Passes bytes s := by
  have hchain : List.IsChain NotSync (0#8 :: bytes) :=
    List.isChain_cons.mpr ⟨fun _ _ hsync => absurd hsync.1 (by decide), h.isChain⟩
  have hlast : bytes.getLastD 0#8 ≠ Config.sync1 := by
    obtain ⟨-, hend⟩ := h
    rw [List.getLastD_eq_getLast?]
    cases hl : bytes.getLast? with
    | none => decide
    | some b => exact fun hb => hend (hl.trans (congrArg some hb))
  have hpos : s.pstate = scanPosition 0#8 := hp.trans (if_neg (by decide)).symm
  exact ⟨_, feeds_scan hx hpos hchain, rfl, if_neg hlast⟩

/-! ## Frames that are discarded -/

/-- A list two longer than `n`, as its first `n` elements and the last two. -/
theorem eq_take_append_last_two {l : List Byte} {n : Nat} (h : l.length = n + 2) :
    l = l.take n ++ [l.getD n 0#8] ++ [l.getD (n + 1) 0#8] := by
  rw [List.getD_eq_getElem _ _ (by omega), List.getD_eq_getElem _ _ (by omega), List.take_append_getElem,
    List.take_append_getElem, List.take_of_length_le (by omega)]

/-- A byte string that decodes is a frame of the fields it decodes to (R136). -/
theorem decodeFrame_eq_some {bytes : List Byte} {d : FrameFields} (h : decodeFrame bytes = some d) :
    ∃ l0 l1, bytes = [Config.sync1, Config.sync2, d.cls, d.id, l0, l1] ++ d.payload ++ [d.ckA] ++ [d.ckB] ∧
      d.length = (le16 l0 l1).toNat ∧ d.payload.length = d.length := by
  match bytes, h with
  | s1 :: s2 :: cls :: id :: l0 :: l1 :: rest, h =>
    simp only [decodeFrame] at h
    split_ifs at h with hframe
    obtain ⟨rfl, rfl, hlen⟩ := hframe
    obtain rfl := Option.some.inj h
    have hpayload : (rest.take (le16 l0 l1).toNat).length = (le16 l0 l1).toNat := by
      rw [List.length_take]
      omega
    refine ⟨l0, l1, ?_, rfl, hpayload⟩
    simpa using eq_take_append_last_two hlen

/-- The bytes a frame's checksum covers (R115, R138). -/
theorem frame_middle (s1 s2 cls id l0 l1 x y : Byte) (p : List Byte) :
    (([s1, s2, cls, id, l0, l1] ++ p ++ [x] ++ [y]).drop 2).take (4 + p.length) = [cls, id, l0, l1] ++ p := by
  have hdrop : ([s1, s2, cls, id, l0, l1] ++ p ++ [x] ++ [y]).drop 2 = ([cls, id, l0, l1] ++ p) ++ [x, y] := by simp
  rw [hdrop]
  exact List.take_left' (by simp; omega)

/-- The last two bytes of an ill-formed frame are not the sums of its middle (R138). -/
theorem checksum_ne_of_not_wellFormed {bytes : List Byte} {d : FrameFields} (hd : decodeFrame bytes = some d)
    (hwf : wellFormedFrame bytes = false) : computeChecksum ((bytes.drop 2).take (4 + d.length)) ≠ (d.ckA, d.ckB) := by
  simp only [wellFormedFrame, hd] at hwf
  exact of_decide_eq_false hwf

section FrameHeld

variable {s v : State} {cls id ckA : Byte} {len : Half} {p : List Byte} {sums : Byte × Byte}

/-- When a held frame names the pending request, by its payload bytes (R184, R185). -/
theorem FrameHeld.namesRequest_iff (h : FrameHeld s v cls id len p sums ckA) (hlen : p.length = len.toNat) (code : Byte) :
    namesRequest code v.rxCls v.rxId v.rxLen { v with pstate := .sync1 } = true ↔
      s.wantAck = true ∧ cls = Config.clsAck ∧ id = code ∧ 2 ≤ p.length ∧ p.getD 0 0#8 = s.reqCls ∧
        p.getD 1 0#8 = s.reqId := by
  have hwant : v.wantAck = s.wantAck := by rw [h.same]
  have hcls : v.reqCls = s.reqCls := by rw [h.same]
  have hid : v.reqId = s.reqId := by rw [h.same]
  simp only [namesRequest, Bool.and_eq_true, beq_iff_eq, decide_eq_true_eq, and_assoc, h.cls, h.id, h.len, ← hlen, hwant,
    hcls, hid]
  refine and_congr_right fun _ => and_congr_right fun _ => and_congr_right fun _ => and_congr_right fun h2 => ?_
  rw [h.payload.byte0 (by omega), h.payload.byte1 h2]

/-- When a held frame is the expected response (R186). -/
theorem FrameHeld.isResponse_iff (h : FrameHeld s v cls id len p sums ckA) (hlen : p.length = len.toNat) :
    isResponse v.rxCls v.rxId v.rxLen { v with pstate := .sync1 } = true ↔
      s.wantResp = true ∧ cls = s.expCls ∧ id = s.expId ∧ 2 ≤ p.length := by
  have hwant : v.wantResp = s.wantResp := by rw [h.same]
  have hcls : v.expCls = s.expCls := by rw [h.same]
  have hid : v.expId = s.expId := by rw [h.same]
  simp only [isResponse, Bool.and_eq_true, beq_iff_eq, decide_eq_true_eq, and_assoc, h.cls, h.id, h.len, ← hlen, hwant, hcls,
    hid]

end FrameHeld

/-- A held frame that nothing waits for is discarded (R187). -/
theorem FrameHeld.classify_unmatched {s v : State} {d : FrameFields} {len : Half} {sums : Byte × Byte}
    (h : FrameHeld s v d.cls d.id len d.payload sums d.ckA) (hlen : d.payload.length = len.toNat)
    (hdlen : d.payload.length = d.length) (hd : Unmatched d s) :
    classify v.rxCls v.rxId v.rxLen { v with pstate := .sync1 } = { v with pstate := .sync1 } := by
  obtain ⟨hnames, hresp⟩ := hd
  rw [← hdlen] at hnames hresp
  obtain ⟨hack, -⟩ | ⟨hnak, -⟩ | ⟨hres, -⟩ | ⟨-, -, -, heq⟩ :=
    classify_cases v.rxCls v.rxId v.rxLen { v with pstate := .sync1 }
  · obtain ⟨hwant, hcls, hid, hrest⟩ := (h.namesRequest_iff hlen _).mp hack
    exact absurd ⟨hwant, hcls, .inl hid, hrest⟩ hnames
  · obtain ⟨hwant, hcls, hid, hrest⟩ := (h.namesRequest_iff hlen _).mp hnak
    exact absurd ⟨hwant, hcls, .inr hid, hrest⟩ hnames
  · exact absurd ((h.isResponse_iff hlen).mp hres) hresp
  · exact heq

/-- The last byte of a frame that verification discards (R161). -/
theorem parserNext_discarded {b : Byte} {s : State} (hp : s.pstate = .ckB) (hv : s.verifyCk = true)
    (hck : checkOk b s = false) : parserNext b s = { s with pstate := .sync1 } := by
  simp [parserNext, hp, hv, hck]

/-- A held frame that is not well-formed fails the check (R138, R160). -/
theorem FrameHeld.checkOk_eq_false {s v : State} {cls id ckA ckB : Byte} {len : Half} {p : List Byte} {sums : Byte × Byte}
    (h : FrameHeld s v cls id len p sums ckA) (hsums : sums ≠ (ckA, ckB)) : checkOk ckB v = false := by
  rw [← Bool.not_eq_true, checkOk, Bool.and_eq_true, beq_iff_eq, beq_iff_eq, h.recv]
  rintro ⟨ha, hb⟩
  exact hsums (by rw [← h.sums, ha, hb])

/-- A frame that nothing waits for, or that verification discards, is passed (R161, R187). -/
theorem passes_discarded_frame {bytes : List Byte} {d : FrameFields} {s : State} (hx : s.xstate = .sent)
    (hp : s.pstate = .sync1) (hd : decodeFrame bytes = some d)
    (hdisc : Unmatched d s ∨ s.verifyCk = true ∧ wellFormedFrame bytes = false) : Passes bytes s := by
  obtain ⟨l0, l1, hbytes, hlen, hdlen⟩ := decodeFrame_eq_some hd
  have hplen := hdlen.trans hlen
  obtain ⟨v, hfeed, hheld⟩ := feeds_frame_but_last hx hp d.cls d.id l0 l1 d.ckA d.payload hplen
  have hxv : v.xstate = .sent := hheld.same.xstate.trans hx
  have hnext : parserNext d.ckB v = { v with pstate := .sync1 } := by
    obtain hun | ⟨hv, hwf⟩ := hdisc
    · simp only [parserNext, hheld.position, hheld.classify_unmatched hplen hdlen hun, ite_self]
    · have hvv : v.verifyCk = true := by rw [hheld.same]; exact hv
      have hsums : computeChecksum ([d.cls, d.id, l0, l1] ++ d.payload) ≠ (d.ckA, d.ckB) := by
        have hne := checksum_ne_of_not_wellFormed hd hwf
        rwa [hbytes, ← hdlen, frame_middle] at hne
      exact parserNext_discarded hheld.position hvv (hheld.checkOk_eq_false hsums)
  rw [hbytes]
  refine ⟨{ v with pstate := .sync1 }, hfeed.append (hnext ▸ feeds_single hxv d.ckB), ?_, rfl⟩
  exact hheld.same.trans rfl

theorem Noise.passes {bytes : List Byte} {s : State} (h : Noise s bytes) (hx : s.xstate = .sent)
    (hp : s.pstate = .sync1) : Passes bytes s := by
  obtain hno | ⟨d, hd, hdisc⟩ := h
  · exact hno.passes hx hp
  · exact passes_discarded_frame hx hp hd hdisc

/-- Any number of pieces of noise, in any order. -/
theorem passes_flatten {noise : List (List Byte)} {s : State} (hx : s.xstate = .sent) (hp : s.pstate = .sync1)
    (h : ∀ bytes ∈ noise, Noise s bytes) : Passes noise.flatten s := by
  induction noise generalizing s with
  | nil => exact ⟨s, Feeds.nil s, rfl, hp⟩
  | cons bytes noise ih =>
    obtain ⟨hfirst, hothers⟩ := List.forall_mem_cons.mp h
    obtain ⟨u, hfeed, hsame, hpu⟩ := hfirst.passes hx hp
    obtain ⟨v, hfeed', hsame', hpv⟩ := ih (hsame.xstate.trans hx) hpu fun b hb => hsame.noise (hothers b hb)
    exact ⟨v, hfeed.append hfeed', hsame.trans hsame', hpv⟩

/-! ## The acknowledgement -/

/-- Settles O44: the noise is passed, the acknowledgement is held, its checksum passes and it names the request. -/
theorem ackFoundBehindNoise : Obligations.AckFoundBehindNoise := by
  unfold Obligations.AckFoundBehindNoise
  intro s noise ack rest hx hp hwant hnoise hack hin
  obtain ⟨u, hfeed, hsame, hpu⟩ := passes_flatten hx hp hnoise
  obtain ⟨v, ckB, hfeed', hok, hheld⟩ := feeds_assembled_frame (hsame.xstate.trans hx) hpu hack
  have hwantu : u.wantAck = true := by rw [hsame]; exact hwant
  have hcls : s.reqCls = u.reqCls := by rw [hsame]
  have hid : s.reqId = u.reqId := by rw [hsame]
  have hnames := (hheld.namesRequest_iff rfl Config.idAck).mpr ⟨hwantu, rfl, rfl, le_rfl, hcls, hid⟩
  have hnext : parserNext ckB v = { v with pstate := .sync1, xstate := .acked } :=
    (parserNext_of_checkOk hheld.position hok).trans (if_pos hnames)
  rw [hnext] at hfeed'
  refine ⟨_, (hfeed.append hfeed').run hin, rfl, rfl, rfl, ?_⟩
  rw [hsame.trans hheld.same]
  rfl

end Sys2Proof.Machine
end

section
/-! PROOFS. The checksum generator: its two rows, the unbounded formulation and the closed form. -/

namespace Sys2Proof.Machine

/-! ## The rows of the generator -/

theorem exec_ckClr (s : State) : exec .ckClr s = .next (ckClear s) := rfl

theorem exec_ckAbs (b : Byte) (s : State) : exec (.ckAbs b) s = .next (ckAbsorb b s) := rfl

/-- The masked step in natural numbers (R112). -/
theorem absorb_eq_ofNat_mod (ck : Byte × Byte) (b : Byte) :
    absorb ck b =
      (BitVec.ofNat 8 ((ck.1.toNat + b.toNat) % 256),
        BitVec.ofNat 8 ((ck.2.toNat + (ck.1.toNat + b.toNat) % 256) % 256)) := by
  refine Prod.ext (BitVec.eq_of_toNat_eq ?_) (BitVec.eq_of_toNat_eq ?_) <;> simp [absorb]

/-- Settles O29: the row is CK.CLR on the receive accumulators. -/
theorem ckClrClearsBoth : Obligations.CkClrClearsBoth := by
  unfold Obligations.CkClrClearsBoth
  intro s
  rw [exec_ckClr, ckClear]

/-- Settles O30: the row is the masked step on the receive accumulators. -/
theorem ckAbsAddsModulo256 : Obligations.CkAbsAddsModulo256 := by
  unfold Obligations.CkAbsAddsModulo256
  intro s b
  rw [exec_ckAbs, ckAbsorb, absorb_eq_ofNat_mod]

/-! ## The unbounded formulation -/

/-- Both accumulators modulo 256. -/
def maskSums (acc : Nat × Nat) : Byte × Byte := (BitVec.ofNat 8 acc.1, BitVec.ofNat 8 acc.2)

theorem unboundedChecksum_eq (s : List Byte) : unboundedChecksum s = maskSums (s.foldl absorbUnbounded (0, 0)) := rfl

/-- Reduction commutes with one step (R114). -/
theorem absorb_maskSums (acc : Nat × Nat) (b : Byte) : absorb (maskSums acc) b = maskSums (absorbUnbounded acc b) := by
  simp only [absorb, maskSums, absorbUnbounded, BitVec.ofNat_add, BitVec.ofNat_toNat, BitVec.setWidth_eq]

/-- Settles O32: reduction commutes with one step, so with all of them. -/
theorem checksumFormulationsAgree : Obligations.ChecksumFormulationsAgree := by
  unfold Obligations.ChecksumFormulationsAgree
  intro s
  exact (List.foldl_hom maskSums absorb_maskSums).symm

/-! ## The closed form -/

/-- The sum of the bytes, each weighted by its distance from the end (R113). -/
def weightedSum (s : List Byte) : Nat := ((List.range s.length).map fun i => (s.length - i) * (s.getD i 0#8).toNat).sum

theorem weightedSum_cons (b : Byte) (s : List Byte) :
    weightedSum (b :: s) = (s.length + 1) * b.toNat + weightedSum s := by
  simp [weightedSum, List.range_succ_eq_map, Function.comp_def]

/-- What the unbounded sums hold after a byte sequence, from any accumulators: each byte, and what `acc.1` held before,
is added to the second sum once for itself and once for every later byte. -/
theorem foldl_absorbUnbounded (s : List Byte) (acc : Nat × Nat) :
    s.foldl absorbUnbounded acc =
      (acc.1 + (s.map BitVec.toNat).sum, acc.2 + s.length * acc.1 + weightedSum s) := by
  induction s generalizing acc with
  | nil => simp [weightedSum]
  | cons b s ih =>
    rw [List.foldl_cons, ih, weightedSum_cons, List.map_cons, List.sum_cons, List.length_cons, absorbUnbounded]
    refine Prod.ext ?_ ?_ <;> ring

/-- Settles O31: by O32 the sums are the unbounded ones reduced at the end, and those have a closed form. -/
theorem checksumClosedForm : Obligations.ChecksumClosedForm := by
  unfold Obligations.ChecksumClosedForm
  intro s
  rw [← checksumFormulationsAgree s, unboundedChecksum_eq, foldl_absorbUnbounded, maskSums]
  simp [weightedSum]

end Sys2Proof.Machine
end

section
/-! PROOFS. Assembled frames: their shape, their decoding, when a frame with given trailing bytes is well-formed, and the
transmit rows whose write does not complete. -/

namespace Sys2Proof.Machine

/-! ## The length field and the trailing pair -/

/-- The two length bytes, read as a little-endian number, are the payload length (R84). -/
theorem le16_length_bytes {n : Nat} (hle : n ≤ 65535) :
    (le16 (lo8 (BitVec.ofNat 16 n)) (hi8 (BitVec.ofNat 16 n))).toNat = n := by
  rw [le16_lo8_hi8, BitVec.toNat_ofNat, Nat.mod_eq_of_lt (by omega)]

theorem getD_trailing_first (l : List Byte) (x y : Byte) : (l ++ [x, y]).getD l.length 0#8 = x := by
  rw [List.getD_append_right _ _ _ _ le_rfl, Nat.sub_self]
  rfl

theorem getD_trailing_second (l : List Byte) (x y : Byte) : (l ++ [x, y]).getD (l.length + 1) 0#8 = y := by
  rw [List.getD_append_right _ _ _ _ (Nat.le_add_right _ 1), Nat.add_sub_cancel_left]
  rfl

/-! ## A frame with any trailing bytes -/

/-- The frame of `cls`, `id` and `p` with `ck` for its trailing two bytes: `assembleFrame` puts the checksum there
(`assembleFrame_eq_some_iff`); R138 speaks of any other pair too. -/
def frameWithTrailer (cls id : Byte) (p : List Byte) (ck : Byte × Byte) : List Byte :=
  [Config.sync1, Config.sync2] ++ frameBody cls id p ++ [ck.1, ck.2]

theorem assembleFrame_eq_some_iff {cls id : Byte} {p f : List Byte} :
    assembleFrame cls id p = some f ↔
      p.length ≤ 65535 ∧ f = frameWithTrailer cls id p (computeChecksum (frameBody cls id p)) := by
  constructor
  · exact assembleFrame_eq_some
  · rintro ⟨hle, rfl⟩
    exact assembleFrame_of_le hle

section Trailer

variable (cls id : Byte) (p : List Byte) (ck : Byte × Byte)

theorem frameBody_length : (frameBody cls id p).length = 4 + p.length := Nat.add_comm _ 4

theorem sync_frameBody_length : ([Config.sync1, Config.sync2] ++ frameBody cls id p).length = 6 + p.length :=
  Nat.add_comm _ 6

theorem frameWithTrailer_length : (frameWithTrailer cls id p ck).length = 8 + p.length := by
  rw [frameWithTrailer, List.length_append, sync_frameBody_length, List.length_cons, List.length_singleton]
  omega

/-- The middle bytes, offsets 2 to `5 + N` (R132, R138). -/
theorem frameWithTrailer_middle : ((frameWithTrailer cls id p ck).drop 2).take (4 + p.length) = frameBody cls id p :=
  List.take_left' (frameBody_length cls id p)

theorem frameWithTrailer_before_trailer :
    (frameWithTrailer cls id p ck).take (6 + p.length) = [Config.sync1, Config.sync2] ++ frameBody cls id p :=
  List.take_left' (sync_frameBody_length cls id p)

theorem frameWithTrailer_trailer :
    ((frameWithTrailer cls id p ck).getD (6 + p.length) 0#8, (frameWithTrailer cls id p ck).getD (7 + p.length) 0#8) =
      ck := by
  rw [Nat.add_comm 6, Nat.add_comm 7]
  exact Prod.ext (getD_trailing_first _ _ _) (getD_trailing_second _ _ _)

variable {p} (hle : p.length ≤ 65535)
include hle

/-- Bytes 4 and 5 are the payload length, low byte first (R84, R132). -/
theorem frameWithTrailer_length_field :
    ((frameWithTrailer cls id p ck).getD 4 0#8).toNat + 256 * ((frameWithTrailer cls id p ck).getD 5 0#8).toNat =
      p.length := by
  have hfield := le16_length_bytes hle
  rw [le16, append_toNat, Nat.add_comm] at hfield
  exact hfield

/-- Decoding a frame recovers what it was made of, whatever its trailing bytes (R136). -/
theorem decodeFrame_frameWithTrailer :
    decodeFrame (frameWithTrailer cls id p ck) =
      some { cls := cls, id := id, length := p.length, payload := p, ckA := ck.1, ckB := ck.2 } := by
  have hbytes : frameWithTrailer cls id p ck =
      Config.sync1 :: Config.sync2 :: cls :: id :: lo8 (BitVec.ofNat 16 p.length) :: hi8 (BitVec.ofNat 16 p.length) ::
        (p ++ [ck.1, ck.2]) := rfl
  rw [hbytes, decodeFrame, le16_length_bytes hle, if_pos ⟨rfl, rfl, List.length_append⟩, List.take_left,
    getD_trailing_first, getD_trailing_second]

/-- A frame is well-formed exactly when its trailing bytes are the checksum of its middle bytes (R138). -/
theorem wellFormedFrame_frameWithTrailer :
    wellFormedFrame (frameWithTrailer cls id p ck) = true ↔ ck = computeChecksum (frameBody cls id p) := by
  simp only [wellFormedFrame, decodeFrame_frameWithTrailer cls id ck hle, frameWithTrailer_middle, decide_eq_true_iff]
  exact eq_comm

end Trailer

/-! ## The frame statements -/

/-- Settles O26: the assembled frame is the one whose trailing bytes are the checksum, and every such frame decodes. -/
theorem decodingAnAssembledFrameRecoversIt : Obligations.DecodingAnAssembledFrameRecoversIt := by
  unfold Obligations.DecodingAnAssembledFrameRecoversIt
  intro c i p hle
  exact ⟨_, assembleFrame_eq_some_iff.mpr ⟨hle, rfl⟩, decodeFrame_frameWithTrailer c i _ hle⟩

/-- Settles O25: the three parts are read off the frame's layout. -/
theorem assembledFrameShape : Obligations.AssembledFrameShape := by
  unfold Obligations.AssembledFrameShape
  intro c i p f hframe
  obtain ⟨hle, rfl⟩ := assembleFrame_eq_some_iff.mp hframe
  rw [frameWithTrailer_middle]
  exact ⟨frameWithTrailer_length_field c i _ hle, frameWithTrailer_length c i p _, frameWithTrailer_trailer c i p _⟩

/-- Settles O27: only the checksum of the middle bytes makes a frame well-formed, so any other pair does not. -/
theorem assembledFramesAreWellFormed : Obligations.AssembledFramesAreWellFormed := by
  unfold Obligations.AssembledFramesAreWellFormed
  intro c i p f hframe
  obtain ⟨hle, rfl⟩ := assembleFrame_eq_some_iff.mp hframe
  refine ⟨(wellFormedFrame_frameWithTrailer c i _ hle).mpr rfl, fun x y hne => ?_⟩
  rw [frameWithTrailer_before_trailer] at hne ⊢
  rw [Bool.eq_false_iff]
  intro hwf
  have hck : (x, y) = computeChecksum (frameBody c i p) := (wellFormedFrame_frameWithTrailer c i (x, y) hle).mp hwf
  exact hne (congrArg (frameWithTrailer c i p) hck)

/-- Settles O24: the length test is the only one `assemble_frame` makes. -/
theorem assembleFailsOnlyOverMaximum : Obligations.AssembleFailsOnlyOverMaximum := by
  unfold Obligations.AssembleFailsOnlyOverMaximum
  intro c i p
  constructor
  · intro hnone
    by_contra hle
    rw [assembleFrame_of_le (not_lt.mp hle)] at hnone
    cases hnone
  · exact assembleFrame_of_gt

/-- Settles O28: the set frame of `assembleFrame_set` for model 6. -/
theorem setSixFrameIsTheListing : Obligations.SetSixFrameIsTheListing := by
  unfold Obligations.SetSixFrameIsTheListing
  exact assembleFrame_set 6#8

/-! ## Transmit rows that do not complete -/

/-- The transmit rows of the opcode table, each with the class, id and payload of its frame (R92). -/
inductive TransmitRow : Instr → Byte → Byte → List Byte → Prop where
  | poll : TransmitRow .txNav5Poll Config.clsCfg Config.idNav5 nav5PollPayload
  | set (m : Byte) : TransmitRow (.txNav5Set m) Config.clsCfg Config.idNav5 (nav5SetPayload m)
  | rst (t : Byte) (mask : Half) : TransmitRow (.txCfgRst t mask) Config.clsCfg Config.idRst (rstPayload t mask)
  | raw (cls id : Byte) (p : List Byte) : TransmitRow (.txRaw cls id p) cls id p

theorem TransmitRow.exec_eq {i : Instr} {cls id : Byte} {p : List Byte} (h : TransmitRow i cls id p) (s : State) :
    exec i s = transmitStep cls id p s := by
  cases h <;> rfl

/-- The reset payload, the mask low byte first (R135). -/
theorem rstPayload_eq (t : Byte) (mask : Half) :
    rstPayload t mask = [mask.setWidth 8, (mask >>> 8).setWidth 8, t, 0x00#8] := by
  rw [← lo8_eq_setWidth, ← hi8_eq_setWidth]
  rfl

/-- Settles O23: each row is the transmit step of its frame, which ends as the length test and the write do. -/
theorem transmitRowsFail : Obligations.TransmitRowsFail := by
  unfold Obligations.TransmitRowsFail
  intro s i c d p f hsent hfailed hrow
  have htransmit : TransmitRow i c d p := by
    obtain ⟨rfl, rfl, rfl, rfl⟩ | ⟨m, rfl, rfl, rfl, rfl⟩ | ⟨t, mask, rfl, rfl, rfl, rfl⟩ | rfl := hrow
    · exact .poll
    · exact .set m
    · rw [← rstPayload_eq]
      exact .rst t mask
    · exact .raw c d p
  rw [htransmit.exec_eq, transmitStep_ready ((cmdReady_iff s).mpr ⟨hsent, hfailed⟩)]
  constructor
  · intro hfail hframe
    rw [sendFrame_fails hframe hfail]
    rfl
  · intro hlong
    rw [sendFrame_too_long (assembleFrame_of_gt hlong)]
    rfl

end Sys2Proof.Machine
end

section
/-! PROOFS. The receive parser position by position, and whole frames: what the parser holds at a frame's last byte is what
`decode_frame` gives, and verification tells the well-formed frames from the others. -/

namespace Sys2Proof.Machine

/-! ## The sync detector -/

theorem receiveWith_sync1 {overlap : Bool} {b : Byte} {s : State} (hx : s.xstate = .sent) (hp : s.pstate = .sync1) :
    receiveWith overlap b s = .next (rxSearch b s) := by
  simp only [receiveWith, if_pos hx, hp]

theorem receiveWith_sync2 {overlap : Bool} {b : Byte} {s : State} (hx : s.xstate = .sent) (hp : s.pstate = .sync2) :
    receiveWith overlap b s = .next (rxSecondSync overlap b s) := by
  simp only [receiveWith, if_pos hx, hp]

theorem rxSearch_sync1 {b : Byte} (hb : b = Config.sync1) (s : State) : rxSearch b s = { s with pstate := .sync2 } := by
  rw [rxSearch, if_pos hb]

theorem rxSearch_other {b : Byte} (hb : b ≠ Config.sync1) (s : State) : rxSearch b s = { s with pstate := .sync1 } := by
  rw [rxSearch, if_neg hb]

theorem rxSecondSync_sync2 {b : Byte} (hb : b = Config.sync2) (overlap : Bool) (s : State) :
    rxSecondSync overlap b s = { s with pstate := .cls, rxCkA := 0#8, rxCkB := 0#8 } := if_pos hb

theorem rxSecondSync_rearmed {overlap : Bool} {b : Byte} (hb : b ≠ Config.sync2)
    (hre : b = Config.sync1 ∧ overlap = true) (s : State) :
    rxSecondSync overlap b s = { s with pstate := .sync2 } := by
  rw [rxSecondSync, if_neg hb, if_pos hre]

theorem rxSecondSync_missed {overlap : Bool} {b : Byte} (hb : b ≠ Config.sync2)
    (hre : ¬(b = Config.sync1 ∧ overlap = true)) (s : State) :
    rxSecondSync overlap b s = { s with pstate := .sync1 } := by
  rw [rxSecondSync, if_neg hb, if_neg hre]

theorem withPState_self {s : State} {p : PState} (hp : s.pstate = p) : { s with pstate := p } = s := by
  rw [← hp]

/-- Settles O33: the rules of the two sync positions, the second split by whether the byte matches and then by whether it
re-arms the detector. -/
theorem syncDetector : Obligations.SyncDetector := by
  unfold Obligations.SyncDetector
  intro overlap b s hx
  refine ⟨fun hp hb => ?armed, fun hp hb => ?searching, fun hp hb => ?matched, fun hp hb hre => ?rearmed,
    fun hp hb hre => ?missed⟩
  case armed => rw [receiveWith_sync1 hx hp, rxSearch_sync1 hb]
  case searching => rw [receiveWith_sync1 hx hp, rxSearch_other hb, withPState_self hp]
  case matched => rw [receiveWith_sync2 hx hp, rxSecondSync_sync2 hb]
  case rearmed => rw [receiveWith_sync2 hx hp, rxSecondSync_rearmed hb hre, withPState_self hp]
  case missed => rw [receiveWith_sync2 hx hp, rxSecondSync_missed hb hre]

theorem exec_rxSync1 (s : State) : exec .rxSync1 s = receiveWith true 0xB5#8 s := rfl

theorem exec_rxSync2 (s : State) : exec .rxSync2 s = receiveWith true 0x62#8 s := rfl

/-- Settles O7: each row is the dispatch of its byte, which has a step at every position. -/
theorem syncRowsTakeTheirByte : Obligations.SyncRowsTakeTheirByte := by
  unfold Obligations.SyncRowsTakeTheirByte
  intro s
  exact ⟨exec_rxSync1 s, exec_rxSync2 s, fun hx => ⟨⟨_, receive_eq_next hx⟩, ⟨_, receive_eq_next hx⟩⟩⟩

/-- Settles O34: the sync detector with SYNC_OVERLAP, for the two sync bytes. -/
theorem syncBytesArmAndMatch : Obligations.SyncBytesArmAndMatch := by
  unfold Obligations.SyncBytesArmAndMatch
  intro s hx
  obtain ⟨harmed, -, -, hrearmed, -⟩ := syncDetector true 0xB5#8 s hx
  obtain ⟨-, hsearching, hmatched, -, -⟩ := syncDetector true 0x62#8 s hx
  rw [exec_rxSync1, exec_rxSync2]
  refine ⟨fun hp => harmed hp rfl, fun hp => ?_, fun hp => ?_, fun hp => hmatched hp rfl⟩
  · rw [withPState_self hp]
    exact hrearmed hp (by decide) ⟨rfl, rfl⟩
  · rw [withPState_self hp]
    exact hsearching hp (by decide)

/-! ## Header, payload and checksum positions -/

/-- A byte presented next in Sent takes the step of its position (R150). -/
theorem step_rxByte_sent {s : State} {b : Byte} {rest : List Event} (hx : s.xstate = .sent)
    (hin : s.inputs = .rxByte b :: rest) : step s = .next (parserNext b (s.withInputs rest)) :=
  (step_rxByte hin).trans (receive_eq_next (s := s.withInputs rest) hx)

section Positions

variable {b : Byte} {s : State}

theorem parserNext_cls (hp : s.pstate = .cls) : parserNext b s = rxClass b s := by simp only [parserNext, hp]

theorem parserNext_ident (hp : s.pstate = .ident) : parserNext b s = rxIdent b s := by simp only [parserNext, hp]

theorem parserNext_len0 (hp : s.pstate = .len0) : parserNext b s = rxLengthLow b s := by simp only [parserNext, hp]

theorem parserNext_len1 (hp : s.pstate = .len1) : parserNext b s = rxLengthHigh b s := by simp only [parserNext, hp]

theorem parserNext_payload (hp : s.pstate = .payload) : parserNext b s = rxPayload b s := by
  simp only [parserNext, hp]

theorem parserNext_ckA (hp : s.pstate = .ckA) : parserNext b s = rxFirstCheck b s := by simp only [parserNext, hp]

end Positions

/-- The length as a number: the low byte already held, and 256 times the high byte (R11, R157). -/
theorem le16_lo8_toNat (v : Half) (b : Byte) : (le16 (lo8 v) b).toNat = v.toNat % 256 + 256 * b.toNat := by
  rw [le16, append_toNat, lo8, BitVec.extractLsb'_toNat, Nat.shiftRight_zero]
  omega

/-- P_LEN1 in numbers (R157). -/
theorem rxLengthHigh_eq (b : Byte) (s : State) :
    rxLengthHigh b s = { ckAbsorb b s with
      rxLen := BitVec.ofNat 16 (s.rxLen.toNat % 256 + 256 * b.toNat), rxIdx := 0#16
      pstate := if s.rxLen.toNat % 256 + 256 * b.toNat = 0 then .ckA else .payload } := by
  have hlen : le16 (lo8 s.rxLen) b = BitVec.ofNat 16 (s.rxLen.toNat % 256 + 256 * b.toNat) := by
    rw [← le16_lo8_toNat, BitVec.ofNat_toNat, BitVec.setWidth_eq]
  have hzero : le16 (lo8 s.rxLen) b = 0#16 ↔ s.rxLen.toNat % 256 + 256 * b.toNat = 0 := by
    rw [← le16_lo8_toNat, BitVec.toNat_eq]
    rfl
  simp only [rxLengthHigh, ← hzero, hlen]

/-- Settles O35: the rule of each position; the high length byte completes the number the rule compares with 0. -/
theorem headerPositions : Obligations.HeaderPositions := by
  unfold Obligations.HeaderPositions
  intro s b rest hx hin
  rw [step_rxByte_sent hx hin]
  refine ⟨fun hp => ?cls, fun hp => ?ident, fun hp => ?len0, fun hp => ?len1⟩
  case cls => exact congrArg _ (parserNext_cls hp)
  case ident => exact congrArg _ (parserNext_ident hp)
  case len0 => exact congrArg _ (parserNext_len0 hp)
  case len1 => exact congrArg _ ((parserNext_len1 (s := s.withInputs rest) hp).trans (rxLengthHigh_eq b _))

/-- Settles O36: the rule of the payload position. -/
theorem payloadPosition : Obligations.PayloadPosition := by
  unfold Obligations.PayloadPosition
  intro s b rest hx hp hin
  rw [step_rxByte_sent hx hin]
  exact congrArg _ (parserNext_payload hp)

theorem checkOk_iff (b : Byte) (s : State) : checkOk b s = true ↔ s.rxCkaRecv = s.rxCkA ∧ b = s.rxCkB := by
  rw [checkOk, Bool.and_eq_true, beq_iff_eq, beq_iff_eq]

/-- The last byte of a frame: verification discards the frame, or the row of its header runs (R160, R161). -/
theorem receive_ckB {b : Byte} {s : State} (hx : s.xstate = .sent) (hp : s.pstate = .ckB) :
    receive b s =
      if s.verifyCk = true ∧ checkOk b s = false then .next { s with pstate := .sync1 }
      else exec (decodeReceived s.rxCls s.rxId s.rxLen) { s with pstate := .sync1 } := by
  by_cases hd : s.verifyCk = true ∧ checkOk b s = false
  · obtain ⟨hv, hck⟩ := hd
    rw [if_pos ⟨hv, hck⟩, receive_eq_next hx, parserNext_discarded hp hv hck]
  · rw [if_neg hd]
    exact receive_ckB_of_not_discarded hx hp (by simpa using hd)

/-- Settles O37: the rule of P_CKA, and the two ends of a frame at P_CKB. -/
theorem checksumPositions : Obligations.ChecksumPositions := by
  unfold Obligations.ChecksumPositions
  intro s b rest hx hin
  have hend (hp : s.pstate = .ckB) := (step_rxByte hin).trans (receive_ckB (b := b) (s := s.withInputs rest) hx hp)
  refine ⟨fun hp => ?first, fun hp hv hbad => ?discarded, fun hp hok => ?classified⟩
  case first =>
    rw [step_rxByte_sent hx hin]
    exact congrArg _ (parserNext_ckA hp)
  case discarded =>
    exact (hend hp).trans (if_pos ⟨hv, Bool.eq_false_iff.mpr fun hck => hbad ((checkOk_iff b s).mp hck)⟩)
  case classified =>
    refine (hend hp).trans (if_neg fun ⟨hv, hck⟩ => ?_)
    obtain hoff | hsums := hok
    · exact Bool.false_ne_true (hoff.symm.trans hv)
    · exact Bool.false_ne_true (hck.symm.trans ((checkOk_iff b s).mpr hsums))

/-! ## Whole frames -/

/-- Every byte string that decodes, from P_SYNC1: it is held but for its last byte, with the sums of its middle (R162). -/
theorem feeds_frame {s : State} {f : List Byte} {d : FrameFields} (hx : s.xstate = .sent) (hp : s.pstate = .sync1)
    (hd : decodeFrame f = some d) :
    ∃ v len, Feeds f s (parserNext d.ckB v) ∧ len.toNat = d.length ∧ d.payload.length = d.length ∧
      FrameHeld s v d.cls d.id len d.payload (computeChecksum ((f.drop 2).take (4 + d.length))) d.ckA := by
  obtain ⟨l0, l1, hf, hlen, hplen⟩ := decodeFrame_eq_some hd
  obtain ⟨v, hfeed, hheld⟩ := feeds_frame_but_last hx hp d.cls d.id l0 l1 d.ckA d.payload (hplen.trans hlen)
  have hmiddle : (f.drop 2).take (4 + d.length) = [d.cls, d.id, l0, l1] ++ d.payload := by
    rw [hf, ← hplen, frame_middle]
  rw [← hmiddle] at hheld
  refine ⟨v, le16 l0 l1, ?_, hlen.symm, hplen, hheld⟩
  have hall := hfeed.append (feeds_single (hheld.same.xstate.trans hx) d.ckB)
  rwa [← hf] at hall

/-- The check of a held frame passes exactly if the frame is well-formed (R138, R160). -/
theorem FrameHeld.checkOk_eq_wellFormedFrame {s v : State} {f : List Byte} {d : FrameFields} {len : Half}
    (hd : decodeFrame f = some d)
    (h : FrameHeld s v d.cls d.id len d.payload (computeChecksum ((f.drop 2).take (4 + d.length))) d.ckA) :
    checkOk d.ckB v = wellFormedFrame f := by
  have hwf : wellFormedFrame f = true ↔ computeChecksum ((f.drop 2).take (4 + d.length)) = (d.ckA, d.ckB) := by
    simp only [wellFormedFrame, hd, decide_eq_true_iff]
  rw [Bool.eq_iff_iff, hwf, checkOk_iff, h.recv, ← h.sums, Prod.mk.injEq, eq_comm (a := d.ckA), eq_comm (a := d.ckB)]

/-- Settles O38: the parser holds the frame when its last byte comes, and the check there tells whether the frame is
well-formed. -/
theorem parserAgreesWithDecodeFrame : Obligations.ParserAgreesWithDecodeFrame := by
  unfold Obligations.ParserAgreesWithDecodeFrame
  intro s f d rest hd hx hp hin
  obtain ⟨v, len, hfeed, hlen, hplen, hheld⟩ := feeds_frame hx hp hd
  obtain ⟨-, h0, h1, h2⟩ := hheld.payload
  rw [hplen] at h0 h1 h2
  have hxv : (v.withInputs rest).xstate = .sent := hheld.same.xstate.trans hx
  have hlast : run f.length s = receive d.ckB (v.withInputs rest) := by
    rw [hfeed.run hin, ← parserNext_withInputs]
    exact (receive_eq_next hxv).symm
  have hverify : (v.withInputs rest).verifyCk = s.verifyCk := by
    rw [hheld.same]
    rfl
  have hcheck : checkOk d.ckB (v.withInputs rest) = wellFormedFrame f :=
    FrameHeld.checkOk_eq_wellFormedFrame (v := v) hd hheld
  have hdiscarded : (v.withInputs rest).verifyCk = true ∧ checkOk d.ckB (v.withInputs rest) = false ↔
      s.verifyCk = true ∧ wellFormedFrame f = false := by
    rw [hverify, hcheck]
  refine ⟨{ v.withInputs rest with pstate := .sync1 }, hheld.same.trans rfl, rfl, rfl, hheld.cls, hheld.id,
    (congrArg BitVec.toNat hheld.len).trans hlen, h0, h1, h2, hheld.sums, hheld.recv, ?_⟩
  rw [hlast, receive_ckB hxv hheld.position, ← hheld.cls, ← hheld.id]
  exact if_congr hdiscarded rfl rfl

/-- Settles O39: verification discards the frame, so the scan passes it and is back at P_SYNC1. -/
theorem badChecksumFrameIsSkipped : Obligations.BadChecksumFrameIsSkipped := by
  unfold Obligations.BadChecksumFrameIsSkipped
  intro s f d rest hd hwf hv hx hp hin
  obtain ⟨v, hfeed, hsame, hpv⟩ := passes_discarded_frame hx hp hd (.inr ⟨hv, hwf⟩)
  exact ⟨v.withInputs rest, hfeed.run hin, hsame.trans rfl, hpv, rfl⟩

/-- Without verification the last byte of a frame classifies it, whatever the two checksum bytes are (R161). -/
theorem parserNext_unverified {b : Byte} {s : State} (hp : s.pstate = .ckB) (hv : s.verifyCk = false) :
    parserNext b s = classify s.rxCls s.rxId s.rxLen { s with pstate := .sync1 } := by
  simp [parserNext, hp, hv]

/-- Settles O45: the bytes are a frame with the given trailer, it is held, and it names the request. -/
theorem unverifiedAckIsAccepted : Obligations.UnverifiedAckIsAccepted := by
  unfold Obligations.UnverifiedAckIsAccepted
  intro s more x y rest hx hp hwant hv hle hin
  have hdecode := decodeFrame_frameWithTrailer Config.clsAck Config.idAck (p := s.reqCls :: s.reqId :: more) (x, y) hle
  obtain ⟨v, len, hfeed, hlen, -, hheld⟩ := feeds_frame hx hp hdecode
  have hvv : v.verifyCk = false := by
    rw [hheld.same]
    exact hv
  have hnames := (hheld.namesRequest_iff hlen.symm Config.idAck).mpr ⟨hwant, rfl, rfl, Nat.le_add_left 2 _, rfl, rfl⟩
  have hnext : parserNext y v = { v with pstate := .sync1, xstate := .acked } :=
    (parserNext_unverified hheld.position hvv).trans (if_pos hnames)
  have hcount : 10 + more.length =
      (frameWithTrailer Config.clsAck Config.idAck (s.reqCls :: s.reqId :: more) (x, y)).length := by
    rw [frameWithTrailer_length, List.length_cons, List.length_cons]
    omega
  rw [hnext] at hfeed
  exact ⟨_, hcount ▸ hfeed.run hin, rfl, rfl⟩

end Sys2Proof.Machine
end

section
/-! PROOFS. Classification of completed frames, row by row, and the names of the models. -/

namespace Sys2Proof.Machine

/-! ## Classification of a completed frame -/

/-- The condition of R184 and R185, part by part. -/
theorem namesRequest_iff (code cls id : Byte) (len : Half) (s : State) :
    namesRequest code cls id len s = true ↔
      s.wantAck = true ∧ cls = Config.clsAck ∧ id = code ∧ 2 ≤ len.toNat ∧ s.rxP0 = s.reqCls ∧ s.rxP1 = s.reqId := by
  simp only [namesRequest, Bool.and_eq_true, beq_iff_eq, decide_eq_true_eq, and_assoc]

/-- The condition of R186, part by part. -/
theorem isResponse_iff (cls id : Byte) (len : Half) (s : State) :
    isResponse cls id len s = true ↔ s.wantResp = true ∧ cls = s.expCls ∧ id = s.expId ∧ 2 ≤ len.toNat := by
  simp only [isResponse, Bool.and_eq_true, beq_iff_eq, decide_eq_true_eq, and_assoc]

/-- An acknowledgement frame of the given id names the request by its length and first two payload bytes (R184, R185). -/
theorem namesRequest_ack_iff (code : Byte) (len : Half) (s : State) :
    namesRequest code Config.clsAck code len s = true ↔
      s.wantAck = true ∧ 2 ≤ len.toNat ∧ s.rxP0 = s.reqCls ∧ s.rxP1 = s.reqId := by
  simp only [namesRequest_iff, true_and]

theorem namesRequest_of_other_header {code cls id : Byte} (h : ¬(cls = Config.clsAck ∧ id = code)) (len : Half)
    (s : State) : namesRequest code cls id len s = false := by
  refine Bool.eq_false_iff.mpr fun hn => h ?_
  obtain ⟨-, hcls, hid, -⟩ := (namesRequest_iff code cls id len s).mp hn
  exact ⟨hcls, hid⟩

/-- A frame that is no acknowledgement is the expected response or is discarded (R186, R187). -/
theorem classify_of_not_ack {cls id : Byte} (hack : ¬(cls = Config.clsAck ∧ id = Config.idAck))
    (hnak : ¬(cls = Config.clsAck ∧ id = Config.idNak)) (len : Half) (s : State) :
    classify cls id len s =
      if s.wantResp = true ∧ cls = s.expCls ∧ id = s.expId ∧ 2 ≤ len.toNat then
        { s with xstate := .responded, model := if 3 ≤ len.toNat then some s.rxP2 else none }
      else s := by
  unfold classify
  rw [namesRequest_of_other_header hack, namesRequest_of_other_header hnak, if_neg Bool.false_ne_true,
    if_neg Bool.false_ne_true]
  exact if_congr (isResponse_iff cls id len s) rfl rfl

theorem exec_rxAckAck (len : Half) (s : State) :
    exec (.rxAckAck len) s = classifyStep Config.clsAck Config.idAck len s := rfl

theorem exec_rxAckNak (len : Half) (s : State) :
    exec (.rxAckNak len) s = classifyStep Config.clsAck Config.idNak len s := rfl

theorem exec_rxNav5Resp (len : Half) (s : State) :
    exec (.rxNav5Resp len) s = classifyStep Config.clsCfg Config.idNav5 len s := rfl

theorem exec_rxOther (cls id : Byte) (len : Half) (s : State) :
    exec (.rxOther cls id len) s = classifyStep cls id len s := rfl

/-- Both sides of an expected header may be written first. -/
theorem expects_comm (cls id : Byte) (len : Half) (s : State) :
    (s.wantResp = true ∧ cls = s.expCls ∧ id = s.expId ∧ 2 ≤ len.toNat) ↔
      s.wantResp = true ∧ s.expCls = cls ∧ s.expId = id ∧ 2 ≤ len.toNat := by
  rw [eq_comm (a := cls), eq_comm (a := id)]

/-- Settles O40: the header is not ACK-NAK's, so the frame names the request as an ACK, or is tested as a response. -/
theorem ackFrameClassification : Obligations.AckFrameClassification := by
  unfold Obligations.AckFrameClassification
  intro s len hx
  have hnak : namesRequest Config.idNak Config.clsAck Config.idAck len s = false :=
    namesRequest_of_other_header (by decide) len s
  rw [exec_rxAckAck, classifyStep_sent hx, classify, hnak, if_neg Bool.false_ne_true]
  exact congrArg _ (if_congr (namesRequest_ack_iff _ len s)
    rfl (if_congr ((isResponse_iff _ _ len s).trans (expects_comm _ _ len s)) rfl rfl))

/-- Settles O41: the header is not ACK-ACK's, so the frame names the request as a NAK, or is tested as a response. -/
theorem nakFrameClassification : Obligations.NakFrameClassification := by
  unfold Obligations.NakFrameClassification
  intro s len hx
  have hack : namesRequest Config.idAck Config.clsAck Config.idNak len s = false :=
    namesRequest_of_other_header (by decide) len s
  rw [exec_rxAckNak, classifyStep_sent hx, classify, hack, if_neg Bool.false_ne_true]
  exact congrArg _ (if_congr (namesRequest_ack_iff _ len s)
    rfl (if_congr ((isResponse_iff _ _ len s).trans (expects_comm _ _ len s)) rfl rfl))

/-- Settles O42: the header is no acknowledgement's. -/
theorem responseFrameClassification : Obligations.ResponseFrameClassification := by
  unfold Obligations.ResponseFrameClassification
  intro s len hx
  rw [exec_rxNav5Resp, classifyStep_sent hx, classify_of_not_ack (by decide) (by decide)]
  exact congrArg _ (if_congr (expects_comm _ _ len s) rfl rfl)

/-- A request that a command can create expects no header but the data response's (R183). -/
theorem PendingLegal.expected_header {s : State} (h : PendingLegal s) (hx : s.xstate = .sent) (hw : s.wantResp = true) :
    s.expCls = Config.clsCfg ∧ s.expId = Config.idNav5 := by
  obtain ⟨-, -, -, -, hec, hei⟩ | ⟨-, hno, -⟩ := h hx
  · exact ⟨hec, hei⟩
  · exact absurd hw (by simp [hno])

/-- Settles O43: the header is no acknowledgement's, and a legal request expects none but the data response's. -/
theorem otherFrameIsDiscarded : Obligations.OtherFrameIsDiscarded := by
  unfold Obligations.OtherFrameIsDiscarded
  intro s c i len hx hack hresp
  rw [exec_rxOther, classifyStep_sent hx,
    classify_of_not_ack (fun ⟨hc, hi⟩ => hack ⟨hc, .inl hi⟩) (fun ⟨hc, hi⟩ => hack ⟨hc, .inr hi⟩)]
  refine ⟨rfl, fun hlegal => congrArg _ (if_neg ?_)⟩
  rintro ⟨hw, rfl, rfl, -⟩
  exact hresp (hlegal.expected_header hx hw)

/-! ## Model names -/

/-- Settles O57: the listed names by evaluation, and no listed code from 10 on. -/
theorem modelNames : Obligations.ModelNames := by
  unfold Obligations.ModelNames
  refine ⟨by decide, fun code hcode => ?_⟩
  obtain ⟨k, hk⟩ := Nat.exists_eq_add_of_le' hcode
  simp only [modelName, hk]

end Sys2Proof.Machine
end

section
/-! PROOFS. The deadline: one tick, runs of ticks, and runs of ticks and received bytes. -/

namespace Sys2Proof.Machine

/-! ## Runs, from the front -/

/-- A run that completes is a step that completes and the run behind it. -/
theorem run_succ_next {n : Nat} {s t : State} (h : run (n + 1) s = .next t) :
    ∃ u, step s = .next u ∧ run n u = .next t := by
  simp only [run] at h
  cases hs : step s with
  | next u => rw [hs] at h; exact ⟨u, rfl, h⟩
  | fault r => rw [hs] at h; cases h
  | refused r => rw [hs] at h; cases h

/-! ## One tick -/

theorem step_tick {s : State} {rest : List Event} (hin : s.inputs = .tick :: rest) :
    step s = .next (tick (s.withInputs rest)) := step_event hin

theorem sub_one_eq_ofNat {v : Word} (h : v ≠ 0#32) : v - 1#32 = BitVec.ofNat 32 (v.toNat - 1) := by
  have hlt : v.toNat < 2 ^ 32 := v.isLt
  bv_omega

/-- Settles O47: the three cases of a tick. -/
theorem tickCountsDown : Obligations.TickCountsDown := by
  unfold Obligations.TickCountsDown
  intro s rest hin
  rw [step_tick hin]
  refine ⟨fun hx hd hz => ?_, fun hx hd hz => ?_, fun hoff => ?_⟩
  · exact congrArg _ (tick_at_zero (s := s.withInputs rest) ⟨hx, hd⟩ hz)
  · rw [← sub_one_eq_ofNat hz]
    exact congrArg _ (tick_counting (s := s.withInputs rest) ⟨hx, hd⟩ hz)
  · refine congrArg _ (tick_without_deadline (s := s.withInputs rest) fun ⟨hx, hd⟩ => ?_)
    obtain hx' | hd' := hoff
    · exact hx' hx
    · exact Bool.false_ne_true (hd'.symm.trans hd)

/-! ## Ticks only -/

/-- `j` ticks, at most as many as the counter holds, take it down by `j` (R190). -/
theorem run_ticks_counting {j : Nat} {s : State} {rest : List Event} (hx : s.xstate = .sent) (hd : s.dlEn = true)
    (hj : j ≤ s.dlCnt.toNat) (hin : s.inputs = List.replicate j .tick ++ rest) :
    run j s = .next { s with inputs := rest, dlCnt := BitVec.ofNat 32 (s.dlCnt.toNat - j) } := by
  induction j generalizing s with
  | zero =>
    rw [Nat.sub_zero, BitVec.ofNat_toNat, BitVec.setWidth_eq, ← show s.inputs = rest from hin]
    rfl
  | succ j ih =>
    have hz : s.dlCnt ≠ 0#32 := by
      intro h0
      rw [h0] at hj
      exact Nat.not_succ_le_zero j hj
    obtain ⟨-, hcount, -⟩ := tickCountsDown s _ hin
    have hcnt : (BitVec.ofNat 32 (s.dlCnt.toNat - 1)).toNat = s.dlCnt.toNat - 1 :=
      Nat.mod_eq_of_lt (by have := s.dlCnt.isLt; omega)
    have hrest := ih (s := { s with
      inputs := List.replicate j .tick ++ rest, dlCnt := BitVec.ofNat 32 (s.dlCnt.toNat - 1) }) hx hd
      ((Nat.le_sub_one_of_lt hj).trans_eq hcnt.symm) rfl
    rw [hcnt, Nat.sub_sub, Nat.add_comm 1 j] at hrest
    exact (run_succ (hcount hx hd hz)).trans hrest

/-- Settles O48: the counter reaches 0 on the last tick it holds, and the next tick finds it there. -/
theorem timesOutOnTickAfterDeadline : Obligations.TimesOutOnTickAfterDeadline := by
  unfold Obligations.TimesOutOnTickAfterDeadline
  intro s rest hx hd hin
  refine ⟨fun j hj => ?before, ?after⟩
  case before =>
    have hsplit : s.inputs = List.replicate j .tick ++ (List.replicate (s.dlCnt.toNat + 1 - j) .tick ++ rest) := by
      rw [hin, ← List.append_assoc, List.replicate_append_replicate, Nat.add_sub_cancel' (by omega)]
    refine ⟨_, run_ticks_counting hx hd hj hsplit, hx, ?_⟩
    exact Nat.mod_eq_of_lt (by have := s.dlCnt.isLt; omega)
  case after =>
    have hsplit : s.inputs = List.replicate s.dlCnt.toNat .tick ++ (.tick :: rest) := by
      rw [hin, List.replicate_succ', List.append_assoc]
      rfl
    have hrun := run_ticks_counting hx hd le_rfl hsplit
    rw [Nat.sub_self] at hrun
    rw [run_add 1 hrun, run_one]
    obtain ⟨htimeout, -, -⟩ := tickCountsDown { s with inputs := .tick :: rest, dlCnt := 0#32 } rest rfl
    exact htimeout hx hd rfl

/-- Settles O50, by induction on the number of ticks. -/
theorem unboundedPollIgnoresTicks : Obligations.UnboundedPollIgnoresTicks := by
  unfold Obligations.UnboundedPollIgnoresTicks
  intro n
  induction n with
  | zero =>
    rintro s rest - - hin
    rw [← show s.inputs = rest from hin]
    rfl
  | succ n ih =>
    intro s rest hx hd hin
    obtain ⟨-, -, hnone⟩ := tickCountsDown s _ hin
    exact (run_succ (hnone (.inr hd))).trans (ih { s with inputs := List.replicate n .tick ++ rest } rest hx hd rfl)

/-! ## Ticks and received bytes -/

/-- `t` has the deadline of `s` (R31). -/
def SameDeadline (s t : State) : Prop := t.dlCnt = s.dlCnt ∧ t.dlEn = s.dlEn

theorem SameButParser.sameDeadline {s t : State} (h : SameButParser s t) : SameDeadline s t := by
  rw [h]
  exact ⟨rfl, rfl⟩

theorem classify_sameDeadline (cls id : Byte) (len : Half) (s : State) : SameDeadline s (classify cls id len s) := by
  obtain ⟨-, heq⟩ | ⟨-, heq⟩ | ⟨-, heq⟩ | ⟨-, -, -, heq⟩ := classify_cases cls id len s <;> rw [heq] <;>
    exact ⟨rfl, rfl⟩

/-- A received byte neither restarts nor extends the deadline, even the last one of a frame (R187). -/
theorem parserNext_sameDeadline (b : Byte) (s : State) : SameDeadline s (parserNext b s) := by
  by_cases hp : s.pstate = .ckB
  · simp only [parserNext, hp]
    split
    · exact ⟨rfl, rfl⟩
    · exact classify_sameDeadline _ _ _ { s with pstate := .sync1 }
  · exact (parserNext_sameButParser hp).sameDeadline

@[simp] theorem tick_dlEn (s : State) : (tick s).dlEn = s.dlEn := by
  obtain ⟨-, -, -, heq⟩ | ⟨-, -, -, heq⟩ | ⟨-, heq⟩ := tick_cases s <;> rw [heq]

@[simp] theorem tick_inputs (s : State) : (tick s).inputs = s.inputs := by
  obtain ⟨-, -, -, heq⟩ | ⟨-, -, -, heq⟩ | ⟨-, heq⟩ := tick_cases s <;> rw [heq]

/-- A tick that leaves an exchange with a deadline open found it open and took one from the counter (R190). -/
theorem tick_stays_sent {s : State} (hd : s.dlEn = true) (h : (tick s).xstate = .sent) :
    s.xstate = .sent ∧ (tick s).dlCnt.toNat + 1 = s.dlCnt.toNat := by
  obtain ⟨-, -, -, heq⟩ | ⟨hx, -, hz, heq⟩ | ⟨hoff, heq⟩ := tick_cases s <;> rw [heq] at h ⊢
  · cases h
  · refine ⟨hx, ?_⟩
    show (s.dlCnt - 1#32).toNat + 1 = s.dlCnt.toNat
    bv_omega
  · exact absurd ⟨h, hd⟩ hoff

/-- One tick or received byte keeps `dl_en`; an exchange still open after it was open before, and the counter has gone
down by one for a tick only. -/
theorem step_stays_sent {s u : State} {e : Event} {es : List Event} (hd : s.dlEn = true)
    (he : e = .tick ∨ ∃ b, e = .rxByte b) (hin : s.inputs = e :: es) (h : step s = .next u) :
    u.inputs = es ∧ u.dlEn = true ∧
      (u.xstate = .sent → s.xstate = .sent ∧ u.dlCnt.toNat + [e].count .tick = s.dlCnt.toNat) := by
  obtain rfl | ⟨b, rfl⟩ := he
  · rw [step_tick hin] at h
    cases h
    exact ⟨tick_inputs _, (tick_dlEn _).trans hd, tick_stays_sent hd⟩
  · rw [step_rxByte hin] at h
    obtain ⟨hx, rfl⟩ := receive_next h
    obtain ⟨hcnt, hen⟩ := parserNext_sameDeadline b { s with inputs := es }
    refine ⟨parserNext_inputs b _, hen.trans hd, fun _ => ⟨hx, ?_⟩⟩
    rw [hcnt, List.count_singleton]
    rfl

/-- A run of ticks and received bytes that ends in Sent was in Sent all along, and the counter has gone down by the number
of ticks. -/
theorem run_stays_sent {es rest : List Event} {s t : State} (hd : s.dlEn = true)
    (hes : ∀ e ∈ es, e = .tick ∨ ∃ b, e = .rxByte b) (hin : s.inputs = es ++ rest) (h : run es.length s = .next t)
    (hx : t.xstate = .sent) :
    s.xstate = .sent ∧ t.dlCnt.toNat + es.count .tick = s.dlCnt.toNat ∧ t.dlEn = true := by
  induction es generalizing s with
  | nil =>
    cases h
    exact ⟨hx, rfl, hd⟩
  | cons e es ih =>
    obtain ⟨u, hstep, hrun⟩ := run_succ_next h
    obtain ⟨he, hes'⟩ := List.forall_mem_cons.mp hes
    obtain ⟨hinu, hdu, hback⟩ := step_stays_sent hd he hin hstep
    obtain ⟨hxu, hcnt, hdt⟩ := ih hdu hes' hinu hrun
    obtain ⟨hxs, hcnt'⟩ := hback hxu
    refine ⟨hxs, ?_, hdt⟩
    rw [← List.singleton_append, List.count_append]
    omega

/-- Settles O49: the run was in Sent all along, where bytes leave the counter alone. -/
theorem deadlineIsAbsolute : Obligations.DeadlineIsAbsolute := by
  unfold Obligations.DeadlineIsAbsolute
  intro s t es rest _ hd hes hin hrun hx
  obtain ⟨-, hcnt, hdt⟩ := run_stays_sent hd hes hin hrun hx
  exact ⟨hcnt, hdt⟩

end Sys2Proof.Machine
end

section
/-! PROOFS. Failed is left by nothing but `Reset`: there only a configuration write and a tick have a step. -/

namespace Sys2Proof.Machine

@[simp] theorem writeReg_err (n : Nat) (v : Word) (s : State) : (writeReg n v s).err = s.err := by
  match n with
  | 0 | 1 | 2 | _ + 3 => rfl

@[simp] theorem writeReg_inputs (n : Nat) (v : Word) (s : State) : (writeReg n v s).inputs = s.inputs := by
  match n with
  | 0 | 1 | 2 | _ + 3 => rfl

/-- `t` is Failed, with the error and the transmit stream of `s` (R239). -/
def FailedAs (s t : State) : Prop := t.xstate = .failed ∧ t.err = s.err ∧ t.tx = s.tx

theorem FailedAs.refl {s : State} (hx : s.xstate = .failed) : FailedAs s s := ⟨hx, rfl, rfl⟩

theorem FailedAs.trans {s u t : State} (h : FailedAs s u) (h' : FailedAs u t) : FailedAs s t := by
  obtain ⟨-, herr, htx⟩ := h
  obtain ⟨hx, herr', htx'⟩ := h'
  exact ⟨hx, herr'.trans herr, htx'.trans htx⟩

/-- Any event but `Reset` that Failed takes leaves it Failed (R180, R240). -/
theorem consume_failed {e : Event} {s t : State} (he : e ≠ .reset) (hx : s.xstate = .failed)
    (h : consume e s = .next t) : FailedAs s t ∧ t.inputs = s.inputs := by
  have hsent : s.xstate ≠ .sent := by simp [hx]
  cases e with
  | reset => exact absurd rfl he
  | cmd cw p ok k =>
    obtain ⟨effect, -, hexec⟩ := exec_decodeCommand cw p
    rw [consume_cmd, hexec] at h
    obtain ⟨hready, -⟩ := commandStep_next h
    exact absurd hx ((cmdReady_iff _).mp hready).2
  | cfgWr n v =>
    rw [consume_cfgWr, cfgWrStep_not_sent hsent] at h
    cases h
    exact ⟨⟨(writeReg_xstate n v s).trans hx, writeReg_err n v s, writeReg_tx n v s⟩, writeReg_inputs n v s⟩
  | rxByte b =>
    rw [consume_rxByte, receive_not_sent hsent] at h
    cases h
  | rxFail =>
    rw [consume_rxFail, rxFailStep_not_sent hsent] at h
    cases h
  | tick =>
    rw [consume_tick, tick_without_deadline fun ⟨hx', _⟩ => hsent hx'] at h
    cases h
    exact ⟨.refl hx, rfl⟩

/-- A step from Failed whose event, if there is one, is not `Reset`: it stays Failed with one event fewer to come. -/
theorem step_failed {n : Nat} {s t : State} (hx : s.xstate = .failed) (hno : Event.reset ∉ s.inputs.take (n + 1))
    (h : step s = .next t) : FailedAs s t ∧ Event.reset ∉ t.inputs.take n := by
  obtain ⟨hin, rfl⟩ | ⟨e, rest, hin, hc⟩ := step_next_cases h
  · exact ⟨.refl hx, by simp [hin]⟩
  · rw [hin, List.take_succ_cons, List.mem_cons, not_or] at hno
    obtain ⟨he, hrest⟩ := hno
    obtain ⟨hfailed, hint⟩ := consume_failed (s := { s with inputs := rest }) (Ne.symm he) hx hc
    exact ⟨hfailed, hint ▸ hrest⟩

/-- Settles O10, by induction on the number of steps. -/
theorem failedIsLeftOnlyByReset : Obligations.FailedIsLeftOnlyByReset := by
  unfold Obligations.FailedIsLeftOnlyByReset
  intro n
  induction n with
  | zero =>
    intro s t hx _ hrun
    cases hrun
    exact FailedAs.refl hx
  | succ n ih =>
    intro s t hx hno hrun
    obtain ⟨u, hstep, hrun'⟩ := run_succ_next hrun
    obtain ⟨hfailed, hno'⟩ := step_failed hx hno hstep
    exact hfailed.trans (ih u t hfailed.1 hno' hrun')

end Sys2Proof.Machine
end

section
/-! PROOFS. The transition table: where each event is enabled, and the exchange state it leads to. -/

namespace Sys2Proof.Machine

/-! ## Commands -/

theorem AfterSend.inputs {after : State → State} (h : AfterSend after) (s : State) : (after s).inputs = s.inputs := by
  cases h with
  | nothing => rfl
  | poll => rfl
  | ack reqId known => rfl

/-- A command's effect takes no event. -/
theorem CommandEffect.inputs {effect : State → State} (h : CommandEffect effect) (s : State) :
    (effect s).inputs = s.inputs := by
  cases h with
  | illegal => rfl
  | send cls id p after hafter =>
    obtain ⟨-, heq⟩ | ⟨f, -, ⟨-, heq⟩ | ⟨-, heq⟩⟩ := sendFrame_cases cls id p after s <;> rw [heq]
    · rfl
    · exact hafter.inputs _
    · rfl

/-- The exchange state after a frame is sent: Idle if it is too long, Failed if its write fails, and else what comes after
it (R210, R230, R232). -/
theorem sendFrame_xstate {cls id : Byte} {p : List Byte} {after : State → State} {s : State} {x : XState}
    (hafter : ∀ f, (after (txWrite f s)).xstate = x) :
    (sendFrame cls id p after s).xstate =
      if 65535 < p.length then .idle else if s.draw.txok = false then .failed else x := by
  by_cases hlen : 65535 < p.length
  · rw [if_pos hlen, sendFrame_too_long (assembleFrame_of_gt hlen)]
    rfl
  · rw [if_neg hlen]
    have hf := assembleFrame_of_le (cls := cls) (id := id) (Nat.le_of_not_lt hlen)
    cases hok : s.draw.txok with
    | true => rw [sendFrame_ok hf hok, hafter, if_neg (by decide)]
    | false =>
      rw [sendFrame_fails hf hok, if_pos rfl]
      rfl

/-- A frame of a payload that fits (R130). -/
theorem sendFrame_xstate_of_le {cls id : Byte} {p : List Byte} {after : State → State} {s : State} {x : XState}
    (hlen : p.length ≤ 65535) (hafter : ∀ f, (after (txWrite f s)).xstate = x) :
    (sendFrame cls id p after s).xstate = if s.draw.txok = false then .failed else x := by
  rw [sendFrame_xstate hafter, if_neg (by omega)]

/-- The `op` field of a command word as a number (R96). -/
theorem op_field_eq (cw : Word) (n : Nat) : cw.extractLsb' 28 4 = BitVec.ofNat 4 n ↔ cw.toNat / 2 ^ 28 = n % 16 := by
  have hlt : cw.toNat < 2 ^ 32 := cw.isLt
  rw [BitVec.toNat_eq, BitVec.extractLsb'_toNat, BitVec.toNat_ofNat, Nat.shiftRight_eq_div_pow]
  omega

theorem afterCommand_illegal {cw : Word} (h : legalCommandWord cw = false) (p : List Byte) (ok : Bool) :
    afterCommand cw p ok = .idle := if_pos h

/-- A legal command word by the number in its `op` field (R97, R180): 5 is RAW, 3 RSTF. -/
theorem afterCommand_legal {cw : Word} (h : legalCommandWord cw = true) (p : List Byte) (ok : Bool) :
    afterCommand cw p ok =
      if cw.toNat / 2 ^ 28 = 5 ∧ 65535 < p.length then .idle
      else if ok = false then .failed
      else if cw.toNat / 2 ^ 28 = 3 ∨ cw.toNat / 2 ^ 28 = 5 then .idle else .sent := by
  have hop3 := op_field_eq cw 3
  have hop5 := op_field_eq cw 5
  unfold afterCommand
  rw [if_neg (by simp [h])]
  exact if_congr (and_congr hop5 Iff.rfl) rfl (if_congr Iff.rfl rfl (if_congr (or_congr hop3 hop5) rfl rfl))

/-- An accepted command word leads where the transition table says. -/
theorem exec_command_xstate {cw : Word} {p : List Byte} {s t : State} (h : exec (decodeCommand cw p) s = .next t) :
    t.xstate = afterCommand cw p s.draw.txok := by
  obtain ⟨hillegal, hlegal⟩ := reservedWordsAreExactlyIllegal cw p
  by_cases hl : legalCommandWord cw = false
  · rw [hillegal.mpr ((legalCommandWord_eq_false_iff cw).mp hl)] at h
    obtain ⟨-, rfl⟩ := commandStep_next h
    exact (afterCommand_illegal hl p _).symm
  · have hne : decodeCommand cw p ≠ .cwIllegal cw := fun he =>
      hl ((legalCommandWord_eq_false_iff cw).mpr ((decodeCommand_eq_cwIllegal_iff cw p).mp he))
    rw [afterCommand_legal (by simpa using hl)]
    obtain ⟨hop, hdec⟩ | ⟨hop, hdec⟩ | ⟨hop, hdec⟩ | ⟨hop, hdec⟩ | ⟨hop, hdec⟩ := hlegal hne <;>
      rw [hdec] at h <;> obtain ⟨-, rfl⟩ := commandStep_next h <;> rw [hop]
    · exact sendFrame_xstate_of_le (s := accept s) (by decide) fun _ => rfl
    · exact sendFrame_xstate_of_le (s := accept s) (by simp) fun _ => rfl
    · exact sendFrame_xstate_of_le (s := accept s) (by simp) fun _ => rfl
    · exact sendFrame_xstate_of_le (s := accept s) (by simp) fun _ => rfl
    · exact (sendFrame_xstate (s := accept s) (after := fun t => t) fun _ => rfl).trans
        (if_congr (and_iff_right rfl).symm rfl rfl)

/-! ## Received bytes -/

/-- The exchange state after a classification is the transition table's (R184 to R187). -/
theorem classify_xstate {s : State} (hx : s.xstate = .sent) :
    (classify s.rxCls s.rxId s.rxLen s).xstate = afterFrame s := by
  unfold classify
  rw [apply_ite State.xstate, apply_ite State.xstate, apply_ite State.xstate, hx]
  exact if_congr (namesRequest_iff _ _ _ _ s) rfl
    (if_congr (namesRequest_iff _ _ _ _ s) rfl (if_congr (isResponse_iff _ _ _ s) rfl rfl))

/-- A received byte leads where the transition table says: out of Sent only at the end of a frame not discarded. -/
theorem parserNext_xstate {b : Byte} {s : State} (hx : s.xstate = .sent) :
    (parserNext b s).xstate = nextXState (.rxByte b) s := by
  by_cases hp : s.pstate = .ckB
  · by_cases hd : s.verifyCk = true ∧ checkOk b s = false
    · obtain ⟨hv, hck⟩ := hd
      rw [parserNext_discarded hp hv hck]
      refine hx.trans (if_neg fun ⟨_, hkept⟩ => hkept ⟨hv, fun hsums => ?_⟩).symm
      exact Bool.false_ne_true (hck.symm.trans ((checkOk_iff b s).mpr hsums))
    · have hnext : parserNext b s = classify s.rxCls s.rxId s.rxLen { s with pstate := .sync1 } := by
        simp only [parserNext, hp]
        exact if_neg (by simpa using hd)
      rw [hnext]
      refine (classify_xstate (s := { s with pstate := .sync1 }) hx).trans (if_pos ⟨hp, fun ⟨hv, hbad⟩ => ?_⟩).symm
      exact hd ⟨hv, Bool.eq_false_iff.mpr fun hck => hbad ((checkOk_iff b s).mp hck)⟩
  · exact (parserNext_sameButParser hp).xstate.trans (hx.trans (if_neg fun ⟨hp', _⟩ => hp hp').symm)

/-! ## Every event -/

theorem tick_xstate (s : State) : (tick s).xstate = nextXState .tick s := by
  obtain ⟨hx, hd, hz, heq⟩ | ⟨-, -, hz, heq⟩ | ⟨hoff, heq⟩ := tick_cases s <;> rw [heq]
  · exact (if_pos ⟨hx, hd, hz⟩).symm
  · exact (if_neg fun ⟨_, _, hz'⟩ => hz hz').symm
  · exact (if_neg fun ⟨hx, hd, _⟩ => hoff ⟨hx, hd⟩).symm

/-- An enabled event is consumed, and leads where the transition table says (R8, R180). -/
theorem consume_enabled {e : Event} {s : State} (h : enabled e s = true) :
    ∃ t, consume e s = .next t ∧ t.xstate = nextXState e s ∧ t.inputs = s.inputs := by
  cases e with
  | reset => exact ⟨_, consume_reset s, rfl, rfl⟩
  | cmd cw p ok k =>
    obtain ⟨effect, heff, hexec⟩ := exec_decodeCommand cw p
    have hnext := (hexec { s with draw := ⟨ok, k⟩ }).trans (commandStep_ready h)
    exact ⟨_, hnext, exec_command_xstate hnext, heff.inputs _⟩
  | cfgWr n v =>
    exact ⟨_, cfgWrStep_not_sent (by simpa [enabled] using h), writeReg_xstate n v s, writeReg_inputs n v s⟩
  | rxByte b =>
    have hx : s.xstate = .sent := by simpa [enabled] using h
    exact ⟨_, (consume_rxByte b s).trans (receive_eq_next hx), parserNext_xstate hx, parserNext_inputs b s⟩
  | rxFail => exact ⟨_, rxFailStep_sent (by simpa [enabled] using h), rfl, rfl⟩
  | tick => exact ⟨_, consume_tick s, tick_xstate s, tick_inputs s⟩

/-- An event that is not enabled is refused (R8, U15). -/
theorem consume_not_enabled {e : Event} {s : State} (h : enabled e s = false) : ∃ r, consume e s = .refused r := by
  cases e with
  | reset => cases h
  | cmd cw p ok k =>
    obtain ⟨effect, -, hexec⟩ := exec_decodeCommand cw p
    exact ⟨_, (hexec _).trans (commandStep_not_ready h)⟩
  | cfgWr n v => exact ⟨_, cfgWrStep_sent (by simpa [enabled] using h)⟩
  | rxByte b => exact ⟨_, (consume_rxByte b s).trans (receive_not_sent (by simpa [enabled] using h))⟩
  | rxFail => exact ⟨_, rxFailStep_not_sent (by simpa [enabled] using h)⟩
  | tick => cases h

/-- The states R8 lists for each event. -/
theorem enabled_iff (e : Event) (s : State) :
    enabled e s = true ↔
      e = .reset ∨ e = .tick ∨
      ((∃ cw p ok k, e = .cmd cw p ok k) ∧
        (s.xstate = .idle ∨ s.xstate = .acked ∨ s.xstate = .naked ∨ s.xstate = .responded ∨ s.xstate = .timedOut)) ∨
      ((∃ n v, e = .cfgWr n v) ∧ s.xstate ≠ .sent) ∨
      (((∃ b, e = .rxByte b) ∨ e = .rxFail) ∧ s.xstate = .sent) := by
  cases e <;> simp [enabled, cmdReady, or_assoc]

theorem nextXState_withInputs (e : Event) (s : State) (es : List Event) :
    nextXState e (s.withInputs es) = nextXState e s := by
  cases e <;> rfl

theorem enabled_withInputs (e : Event) (s : State) (es : List Event) : enabled e (s.withInputs es) = enabled e s := by
  cases e <;> rfl

/-- Settles O5: an event has a step exactly where it is enabled. -/
theorem transitionTableIsComplete : Obligations.TransitionTableIsComplete := by
  unfold Obligations.TransitionTableIsComplete
  intro s e rest hin
  have hstep : step s = consume e (s.withInputs rest) := step_event hin
  dsimp only
  rw [← enabled_iff, ← enabled_withInputs e s rest, hstep, ← nextXState_withInputs e s rest]
  exact ⟨fun h => consume_enabled h, fun h => consume_not_enabled (Bool.eq_false_iff.mpr h)⟩

end Sys2Proof.Machine
end

section
/-! PROOFS. The host commands: the whole next state of a command whose write succeeds, of an illegal command word, and of a
configuration write. -/

namespace Sys2Proof.Machine

/-! ## Commands that send a frame -/

/-- A command whose write succeeds: the previous result is dropped, the frame goes out, and `after` is done (R210). -/
theorem commandStep_sends {cls id : Byte} {p f : List Byte} {after : State → State} {s : State} (hsent : s.xstate ≠ .sent)
    (hfailed : s.xstate ≠ .failed) (hok : s.draw.txok = true) (hframe : assembleFrame cls id p = some f) :
    commandStep (sendFrame cls id p after) s = .next (after (txWrite f (accept s))) := by
  rw [commandStep_ready ((cmdReady_iff s).mpr ⟨hsent, hfailed⟩), sendFrame_ok (s := accept s) hframe hok]

/-- Settles O12: the poll frame, then `pollExchange` is opened. -/
theorem pollSendsAndWaits : Obligations.PollSendsAndWaits := by
  unfold Obligations.PollSendsAndWaits
  intro s hsent hfailed hok
  exact commandStep_sends hsent hfailed hok assembleFrame_poll

/-- Settles O13: the set frame, then `ackExchange` is opened with two free values for `exp_cls` and `exp_id`. -/
theorem setSendsAndWaits : Obligations.SetSendsAndWaits := by
  unfold Obligations.SetSendsAndWaits
  intro s m hsent hfailed hok
  exact ⟨freeByte s 0, freeByte s 1, s.freeCtr + 2, commandStep_sends hsent hfailed hok (assembleFrame_set m)⟩

/-- Settles O14: the reset frame, and nothing after it. -/
theorem rstfSendsAndIsIdle : Obligations.RstfSendsAndIsIdle := by
  unfold Obligations.RstfSendsAndIsIdle
  intro s t mask hsent hfailed hok
  exact commandStep_sends hsent hfailed hok (assembleFrame_rst t mask)

/-- Settles O15: the reset frame, then `ackExchange` is opened with two free values for `exp_cls` and `exp_id`. -/
theorem rstcSendsAndWaits : Obligations.RstcSendsAndWaits := by
  unfold Obligations.RstcSendsAndWaits
  intro s t mask hsent hfailed hok
  exact ⟨freeByte s 0, freeByte s 1, s.freeCtr + 2, commandStep_sends hsent hfailed hok (assembleFrame_rst t mask)⟩

/-- The two length bytes are the length and its quotient by 256, each reduced to a byte (R84). -/
theorem lengthBytes_eq (n : Nat) : lengthBytes n = [BitVec.ofNat 8 n, BitVec.ofNat 8 (n / 256)] := by
  have hlo : lo8 (BitVec.ofNat 16 n) = BitVec.ofNat 8 n := by
    rw [lo8_eq_setWidth]
    exact BitVec.setWidth_ofNat_of_le (by decide) n
  have hhi : hi8 (BitVec.ofNat 16 n) = BitVec.ofNat 8 (n / 256) := by
    apply BitVec.eq_of_toNat_eq
    rw [hi8, BitVec.extractLsb'_toNat, BitVec.toNat_ofNat, BitVec.toNat_ofNat, Nat.shiftRight_eq_div_pow]
    omega
  rw [lengthBytes, leBytes, hlo, hhi]

theorem frameBody_eq (cls id : Byte) (p : List Byte) :
    frameBody cls id p = [cls, id, BitVec.ofNat 8 p.length, BitVec.ofNat 8 (p.length / 256)] ++ p := by
  rw [frameBody, lengthBytes_eq]
  rfl

/-- Settles O16: the frame of the operands, its length bytes by `frameBody_eq`, and nothing after it. -/
theorem rawSendsAndIsIdle : Obligations.RawSendsAndIsIdle := by
  unfold Obligations.RawSendsAndIsIdle
  intro s c i p hsent hfailed hok hle
  have hframe := assembleFrame_of_le (cls := c) (id := i) hle
  rw [frameBody_eq] at hframe
  exact commandStep_sends hsent hfailed hok hframe

/-! ## An illegal command word -/

/-- Settles O18: the command is accepted, and `E_OP` is raised in its place. -/
theorem illegalWordRaisesOperationError : Obligations.IllegalWordRaisesOperationError := by
  unfold Obligations.IllegalWordRaisesOperationError
  intro s cw hsent hfailed
  exact commandStep_ready (effect := raise .eOp) ((cmdReady_iff s).mpr ⟨hsent, hfailed⟩)

/-! ## Configuration writes -/

/-- A write to a read-only or reserved register has no effect (R221). -/
theorem writeReg_of_three_le {n : Nat} (h : 3 ≤ n) (v : Word) (s : State) : writeReg n v s = s := by
  obtain ⟨k, rfl⟩ := Nat.exists_eq_add_of_le' h
  rfl

/-- Settles O52: in Sent the event is refused; elsewhere the step is the register's write. -/
theorem configurationWrite : Obligations.ConfigurationWrite := by
  unfold Obligations.ConfigurationWrite
  intro s n v rest hin
  have hrefused (hsent : s.xstate = .sent) : step s = .refused .cfgWrNotEnabled :=
    (step_event hin).trans (cfgWrStep_sent hsent)
  have hwrite (hsent : s.xstate ≠ .sent) : step s = .next (writeReg n v { s with inputs := rest }) :=
    (step_event hin).trans (cfgWrStep_not_sent hsent)
  refine ⟨hrefused, ?ctrl, ?tmoAck, ?tmoPoll, ?other⟩
  case ctrl => rintro hsent rfl; exact hwrite hsent
  case tmoAck => rintro hsent rfl; exact hwrite hsent
  case tmoPoll => rintro hsent rfl; exact hwrite hsent
  case other => exact fun hsent hn => (hwrite hsent).trans (congrArg _ (writeReg_of_three_le hn v _))

end Sys2Proof.Machine
end

section
/-! PROOFS. The exceptions: E_LEN of RAW, E_XPORT of a command whose write fails, and E_XPORT of a receive failure. -/

namespace Sys2Proof.Machine

/-! ## A payload over the maximum -/

/-- Settles O17: the command is accepted, and the length test, before any draw is looked at, raises `E_LEN`. -/
theorem rawTooLongRaisesLengthError : Obligations.RawTooLongRaisesLengthError := by
  unfold Obligations.RawTooLongRaisesLengthError
  intro s c i p hsent hfailed hlong
  calc exec (.raw c i p) s
      = .next (sendFrame c i p (fun t => t) (accept s)) := commandStep_ready ((cmdReady_iff s).mpr ⟨hsent, hfailed⟩)
    _ = .next (raise .eLen (accept s)) := congrArg _ (sendFrame_too_long (assembleFrame_of_gt hlong))

/-! ## A write that fails -/

/-- The commands that send a frame, each with the class, id and payload of its frame (R214 to R218). -/
inductive CommandRow : Instr → Byte → Byte → List Byte → Prop where
  | poll : CommandRow .poll Config.clsCfg Config.idNav5 nav5PollPayload
  | set (m : Byte) : CommandRow (.set m) Config.clsCfg Config.idNav5 (nav5SetPayload m)
  | rstf (t : Byte) (mask : Half) : CommandRow (.rstf t mask) Config.clsCfg Config.idRst (rstPayload t mask)
  | rstc (t : Byte) (mask : Half) : CommandRow (.rstc t mask) Config.clsCfg Config.idRst (rstPayload t mask)
  | raw (cls id : Byte) (p : List Byte) : CommandRow (.raw cls id p) cls id p

theorem CommandRow.exec_eq {i : Instr} {cls id : Byte} {p : List Byte} (h : CommandRow i cls id p) :
    ∃ after, ∀ s, exec i s = commandStep (sendFrame cls id p after) s := by
  cases h <;> exact ⟨_, fun _ => rfl⟩

/-- A command whose write fails: part of the frame goes out, `E_XPORT` is raised, and `after` is not done (R210, R232). -/
theorem commandStep_fails {cls id : Byte} {p f : List Byte} {after : State → State} {s : State} (hsent : s.xstate ≠ .sent)
    (hfailed : s.xstate ≠ .failed) (hfail : s.draw.txok = false) (hframe : assembleFrame cls id p = some f) :
    commandStep (sendFrame cls id p after) s = .next (raise .eXport (txWrite (failedPart s.draw.k f) (accept s))) := by
  rw [commandStep_ready ((cmdReady_iff s).mpr ⟨hsent, hfailed⟩), sendFrame_fails (s := accept s) hframe hfail]
  rfl

theorem length_pos_of_assembleFrame {cls id : Byte} {p f : List Byte} (h : assembleFrame cls id p = some f) :
    0 < f.length := by
  obtain ⟨-, rfl⟩ := assembleFrame_eq_some_iff.mp h
  rw [frameWithTrailer_length]
  omega

/-- What goes out of a frame whose write fails is a proper part of it (R63). -/
theorem failedPart_length_lt {f : List Byte} (h : 0 < f.length) (k : Nat) : (failedPart k f).length < f.length := by
  rw [failedPart, List.length_take]
  omega

/-- Settles O19: each command is the `Cmd` step around its frame, which the failed write cuts off. -/
theorem failedWriteEndsInFailed : Obligations.FailedWriteEndsInFailed := by
  unfold Obligations.FailedWriteEndsInFailed
  intro s i c d p f hsent hfailed hfail hrow hframe
  have hcommand : CommandRow i c d p := by
    obtain ⟨rfl, rfl, rfl, rfl⟩ | ⟨m, rfl, rfl, rfl, rfl⟩ | ⟨t, mask, hi, rfl, rfl, rfl⟩ | rfl := hrow
    · exact .poll
    · exact .set m
    · rw [← rstPayload_eq]
      obtain rfl | rfl := hi
      · exact .rstf t mask
      · exact .rstc t mask
    · exact .raw c d p
  obtain ⟨after, hexec⟩ := hcommand.exec_eq
  exact ⟨(hexec s).trans (commandStep_fails hsent hfailed hfail hframe),
    failedPart_length_lt (length_pos_of_assembleFrame hframe) s.draw.k⟩

/-! ## A receive failure -/

/-- Settles O51: in Sent the event raises `E_XPORT`; elsewhere it is refused. -/
theorem rxFailEndsInFailed : Obligations.RxFailEndsInFailed := by
  unfold Obligations.RxFailEndsInFailed
  intro s rest hin
  exact ⟨fun hsent => (step_event hin).trans (rxFailStep_sent hsent),
    fun hsent => (step_event hin).trans (rxFailStep_not_sent hsent)⟩

end Sys2Proof.Machine
end

section
/-! PROOFS. The `Reset` event: in every state it gives the reset values. -/

namespace Sys2Proof.Machine

@[simp] theorem modelValid_blockReset (hz : Nat) (s : State) : modelValid (blockReset hz s) = false := rfl

/-- TMO_ACK after `Reset` is `2 · TICK_HZ` as a number: the product does not wrap (R41, R51). -/
theorem blockReset_tmoAck_toNat (s : State) : (blockReset Config.tickHz s).tmoAck.toNat = 2 * Config.tickHz := by
  rw [blockReset_tmoAck, BitVec.toNat_ofNat, Nat.mod_eq_of_lt two_tickHz_lt]

/-- Settles O2: the step is the block reset of the state with `Reset` taken from the queue; TMO_ACK is the one value that
does not stand in its definition as the statement writes it. -/
theorem resetEventGivesTheResetValues : Obligations.ResetEventGivesTheResetValues := by
  unfold Obligations.ResetEventGivesTheResetValues
  intro s rest hin
  have hstep : step s = .next (blockReset Config.tickHz { s with inputs := rest }) :=
    (step_event hin).trans (consume_reset _)
  exact ⟨_, hstep, by simp [blockReset_tmoAck_toNat, -blockReset_tmoAck]⟩

end Sys2Proof.Machine
end
